-- ==== Sys2Proof/Word.lean ====
section
/-! DEFINITION. The block's one data width: every datum is an unsigned byte, and the only multi-byte entities are byte
sequences (00_scope.md R9, R10, R11). -/

namespace Sys2Proof

/-- A byte: 8 bits, unsigned, bit 7 the most significant (00_scope.md R10). -/
abbrev Byte := BitVec 8

/-- A byte sequence, element 0 first (00_scope.md R11). -/
abbrev Bytes := List Byte

/-- `rep(n, b)`: n copies of b (00_scope.md R11). -/
abbrev rep (n : Nat) (b : Byte) : Bytes := List.replicate n b

end Sys2Proof
end

