-- ==== Sys2Proof/Config.lean ====
section
/-! DEFINITION. What an implementation fixes: the shape of the configuration record of 00_scope.md R7 (its values stand in
Machine/Constants.lean), the open parameters of R8, and the free values (what the transport answers). -/

namespace Sys2Proof

/-- The configuration record of 00_scope.md R7: fixed for the life of the block, not state (10_state.md R41). -/
structure Config where
  /-- `FRAME_LEN`: bytes per frame on the wire. -/
  frameLen : Nat
  /-- `PAYLOAD_LEN`: payload bytes per frame. -/
  payloadLen : Nat
  /-- `CRC_IN_LEN`: bytes covered by the CRC. -/
  crcInLen : Nat
  /-- `LEN_MIN`: least legal length for the encoder. -/
  lenMin : Nat
  /-- `LEN_MAX`: greatest legal length for the encoder. -/
  lenMax : Nat
  /-- `PAD`: the padding byte. -/
  pad : Byte
  /-- `POLY`: the CRC-8 polynomial, low 8 bits. -/
  poly : Byte
  /-- `CRC_INIT`: the CRC accumulator's initial value. -/
  crcInit : Byte
  /-- `ACK_SENTINEL`: payload[0] of the ACK control frame. -/
  ackSentinel : Byte
  /-- `RETX_SENTINEL`: payload[0] of the RETX control frame. -/
  retxSentinel : Byte
  deriving DecidableEq, Repr

/-- `ATOMICITY` (00_scope.md R8, 20_memory.md R67): whether one operation or one primitive is indivisible. -/
inductive Atomicity where
  | event
  | primitive
  deriving DecidableEq, Repr

/-- The open parameters of 00_scope.md R8 that a rule depends on. A capacity of `none` is unbounded. -/
structure Params where
  /-- `RXBUF_CAP`. -/
  rxbufCap : Option Nat
  /-- `INQ_CAP`. -/
  inqCap : Option Nat
  /-- `ATOMICITY`. -/
  atomicity : Atomicity
  deriving DecidableEq, Repr

/-- What the transport draws for one write request (60_exceptions.md R280, 93 U5 and U6): `ok`, or `fail` with the number of
the frame's bytes that reached the wire before it failed (a number past the end stands for all of them;
notes/assumptions/2.md). -/
inductive Answer where
  | ok
  | fail (sent : Nat)
  deriving DecidableEq, Repr, Inhabited

/-- FREE VALUE (notes/assumptions/1.md): the answer the transport draws for the n-th write for which State lists no answer.
Nothing constrains it. -/
opaque Config.transportAnswer : Nat → Answer

/-- `POLL_INTERVAL` (00_scope.md R8): no value in the source, and no rule reads it (notes/assumptions/14.md). -/
opaque Config.pollInterval : Nat

end Sys2Proof
end

