-- ==== Sys2Proof/Machine/Constants.lean ====
section
/-! DEFINITION. The values of the configuration record, 00_scope.md R7, and the default parameters, R8. -/

namespace Sys2Proof.Machine

/-- `CONFIG`: the table of 00_scope.md R7. -/
def CONFIG : Config :=
  { frameLen := 18
    payloadLen := 16
    crcInLen := 17
    lenMin := 1
    lenMax := 16
    pad := 0xFF#8
    poly := 0x07#8
    crcInit := 0x00#8
    ackSentinel := 0x15#8
    retxSentinel := 0x19#8 }

/-- The defaults of 00_scope.md R8: unbounded buffers, `ATOMICITY = event`. -/
def defaultParams : Params :=
  { rxbufCap := none, inqCap := none, atomicity := .event }

end Sys2Proof.Machine
end

