-- ==== Sys2Proof/Machine/Crc.lean ====
section
/-! DEFINITION. The CRC-8 function of the Checksum Engine (40_checksum.md R130, R131). -/

namespace Sys2Proof.Machine

/-- `CRC_ROUND` (40_checksum.md R131): the bit shifted out of bit 7 decides whether the polynomial is XORed in. -/
def crcRound (a : Byte) : Byte :=
  if a.getLsbD 7 then (a <<< 1) ^^^ CONFIG.poly else a <<< 1

/-- n rounds. -/
def crcRounds : Nat → Byte → Byte
  | 0, a => a
  | n + 1, a => crcRounds n (crcRound a)

/-- One input byte: XOR it in, then 8 rounds (40_checksum.md R130). -/
def crcByte (acc b : Byte) : Byte := crcRounds 8 (acc ^^^ b)

/-- `CRC8` from a given accumulator. -/
def crcFrom (acc : Byte) (bs : Bytes) : Byte := bs.foldl crcByte acc

/-- `CRC8` (40_checksum.md R130): total on every byte sequence. -/
def crc8 (bs : Bytes) : Byte := crcFrom CONFIG.crcInit bs

end Sys2Proof.Machine
end

