-- ==== Sys2Proof/Syntax.lean ====
section
/-! DEFINITION. The operations of the block: one constructor of `Instr` for each row of spec/opcode_table.json (the 14
commands, the two reserved codes and the four wire-frame classes), the values they take, and who may issue them. -/

namespace Sys2Proof

/-- The decoded form of a frame (00_scope.md R11, 10_state.md R32). A `Frame` of the spec has exactly 16 payload bytes:
`Frame.wf` (WellFormed.lean) is that check. -/
structure Frame where
  length : Byte
  payload : Bytes
  crc : Byte
  deriving DecidableEq, Repr

/-- The four classes of 30_encoding.md R94. -/
inductive FrameClass where
  | corrupt
  | retx
  | ack
  | data
  deriving DecidableEq, Repr

/-- The four agents of 10_state.md R44. -/
inductive Agent where
  | ingress
  | appSend
  | appRecv
  | transport
  deriving DecidableEq, Repr

/-- Who issues a command: an agent, or one of the block's own units, which alone issue the internal operations
(30_encoding.md R101). -/
inductive Issuer where
  | agent (a : Agent)
  | block
  deriving DecidableEq, Repr

/-- The operations of 30_encoding.md R101 and the frame classes of R103, operands as typed values. -/
inductive Instr where
  /-- op 0x0, 70_reset_and_hazards.md R300. -/
  | reset
  /-- op 0x1, 40_checksum.md R130. -/
  | crc8 (bs : Bytes)
  /-- op 0x2, 41_codec.md R150. -/
  | encode (len : Byte) (p : Bytes)
  /-- op 0x3, 41_codec.md R153. -/
  | decode (bs : Bytes)
  /-- op 0x4, 41_codec.md R155. -/
  | validate (fr : Frame)
  /-- op 0x5, 41_codec.md R156. -/
  | classify (fr : Frame)
  /-- op 0x6, 42_assembler.md R180. -/
  | rxchunk (bs : Bytes)
  /-- op 0x7, 42_assembler.md R181. -/
  | slice
  /-- op 0x8, 43_controller.md R200. -/
  | dispatch (f : Bytes)
  /-- op 0x9, 43_controller.md R205. -/
  | txframe (f : Bytes)
  /-- op 0xA, 43_controller.md R206. -/
  | send (len : Byte) (p : Bytes)
  /-- op 0xB, 44_queue.md R240. -/
  | push (fr : Frame)
  /-- op 0xC, 44_queue.md R241. -/
  | recv
  /-- op 0xD, 60_exceptions.md R275. -/
  | readerr
  /-- op 0xE, reserved, 30_encoding.md R102. -/
  | reservedE
  /-- op 0xF, reserved, 30_encoding.md R102. -/
  | reservedF
  /-- wire frame of class CORRUPT, 43_controller.md R201. -/
  | rxCorrupt (fr : Frame)
  /-- wire frame of class RETX (one bit pattern), 43_controller.md R202. -/
  | rxRetx
  /-- wire frame of class ACK (one bit pattern), 43_controller.md R203. -/
  | rxAck
  /-- wire frame of class DATA, 43_controller.md R204. -/
  | rxData (fr : Frame)
  deriving DecidableEq, Repr

/-- One operand, passed beside the 4-bit code as a typed value (30_encoding.md R100). -/
inductive Operand where
  | byte (b : Byte)
  | bytes (bs : Bytes)
  | frame (fr : Frame)
  deriving DecidableEq, Repr

/-- The two encodings of 30_encoding.md: format `cmd` (R100) and format `frame18` (R90). -/
inductive Code where
  | cmd (op : BitVec 4) (operands : List Operand)
  | wire (bs : Bytes)
  deriving DecidableEq, Repr

end Sys2Proof
end

