-- ==== Sys2Proof/Machine/Codec.lean ====
section
/-! DEFINITION. The frame codec and the classifier as pure functions (30_encoding.md R90 to R95, 41_codec.md R150 to R156). -/

namespace Sys2Proof.Machine

/-- The CRC input of a frame: `[length] ++ payload` (40_checksum.md R132). -/
def crcInput (fr : Frame) : Bytes := fr.length :: fr.payload

/-- `enc(fr)` (41_codec.md R156): the wire form, byte order of 20_memory.md R62. -/
def frameBytes (fr : Frame) : Bytes := crcInput fr ++ [fr.crc]

/-- Field extraction from an 18-byte sequence (30_encoding.md R91). -/
def frameOf (s : Bytes) : Frame :=
  { length := s.getD 0 0#8
    payload := (s.drop 1).take CONFIG.payloadLen
    crc := s.getD CONFIG.crcInLen 0#8 }

/-- The payload padded on the right to 16 bytes (41_codec.md R150). -/
def padded (p : Bytes) : Bytes := p ++ rep (CONFIG.payloadLen - p.length) CONFIG.pad

/-- The frame the encoder makes of an admitted pair (41_codec.md R150). -/
def buildFrame (len : Byte) (p : Bytes) : Bytes :=
  (len :: padded p) ++ [crc8 (len :: padded p)]

/-- The encoder's admission (41_codec.md R150, R151). -/
def encodeAdmits (len : Byte) (p : Bytes) : Bool :=
  decide (CONFIG.lenMin ≤ len.toNat) && decide (len.toNat ≤ CONFIG.lenMax) &&
    (decide (p.length ≤ CONFIG.payloadLen) && decide (p.length ≤ len.toNat))

/-- `ACK_FRAME` (30_encoding.md R93). -/
def ackFrame : Bytes := buildFrame 0x01#8 [CONFIG.ackSentinel]

/-- `RETX_FRAME` (30_encoding.md R93). -/
def retxFrame : Bytes := buildFrame 0x01#8 [CONFIG.retxSentinel]

/-- `VALIDATE` (41_codec.md R155): only the CRC is checked. -/
def validate (fr : Frame) : Bool := crc8 (crcInput fr) == fr.crc

/-- `CLASSIFY` (41_codec.md R156): the priority order of 30_encoding.md R94. -/
def classify (fr : Frame) : FrameClass :=
  if validate fr then
    if frameBytes fr = retxFrame then .retx
    else if frameBytes fr = ackFrame then .ack
    else .data
  else .corrupt

end Sys2Proof.Machine
end

