-- ==== Sys2Proof/Machine/State.lean ====
section
/-! DEFINITION. The state of the block as plain data: the five elements of 10_state.md R30, the output trace of R39, the wires
of 20_memory.md R60, and the fields a model needs to run the four agents of R44. -/

namespace Sys2Proof.Machine

/-- The causes of 60_exceptions.md R260 (codes 0x1 to 0x6). -/
inductive Cause where
  | checksumMismatch
  | streamDesync
  | transportWriteFailure
  | emptyCacheOnRetx
  | contractViolation
  | capacityOverflow
  deriving DecidableEq, Repr

/-- The four defined bits of `ERR` (10_state.md R36). -/
inductive ErrBit where
  /-- bit 0, `EMPTY_CACHE_RETX`. -/
  | emptyCacheRetx
  /-- bit 1, `INGRESS_TX_FAIL`. -/
  | ingressTxFail
  /-- bit 2, `RXBUF_OVERFLOW`. -/
  | rxbufOverflow
  /-- bit 3, `INQ_OVERFLOW`. -/
  | inqOverflow
  deriving DecidableEq, Repr

/-- The result of one write request (00_scope.md R12, `Transmit`). -/
inductive TxResult where
  | ok
  | fail
  deriving DecidableEq, Repr

/-- What an operation returns to its issuer (30_encoding.md R101). A refused operation returns `status 0x05`. -/
inductive Result where
  /-- CRC8, READERR. -/
  | byte (b : Byte)
  /-- ENCODE, SLICE. -/
  | frame18 (s : Bytes)
  /-- DECODE, RECV. -/
  | frame (fr : Frame)
  /-- VALIDATE. -/
  | bool (b : Bool)
  /-- CLASSIFY. -/
  | frameClass (c : FrameClass)
  /-- TXFRAME. -/
  | written (r : TxResult)
  /-- SEND's status, and the cause code of any refused operation (60_exceptions.md R260). -/
  | status (code : Byte)
  deriving DecidableEq, Repr

/-- Who a write request's result goes back to. -/
inductive Caller where
  /-- A frame action of the controller (43_controller.md R210 on failure). -/
  | action
  /-- SEND (43_controller.md R206). -/
  | send
  /-- TXFRAME issued on its own by the block (43_controller.md R205). -/
  | txframe
  deriving DecidableEq, Repr

/-- The state elements RESET clears, in the order of its pseudocode (70_reset_and_hazards.md R300). -/
inductive Element where
  | cache
  | rxbuf
  | inq
  | err
  | txlog
  deriving DecidableEq, Repr

/-- One indivisible primitive of an operation in progress under `ATOMICITY = primitive` (00_scope.md R12, 20_memory.md R67;
notes/assumptions/8.md). -/
inductive Prim where
  /-- The capacity test of R180: chooses `RxAppend` or the `raise`, changes nothing. -/
  | rxTest (bs : Bytes)
  /-- `RxAppend`. -/
  | rxAppend (bs : Bytes)
  /-- The loop test of R180: changes nothing. -/
  | drain
  /-- `RxTake`, the SLICE of R181. -/
  | rxTake
  /-- DECODE and CLASSIFY of a sliced frame: chooses the action, changes nothing. -/
  | dispatch (f : Bytes)
  /-- `raise`, with the `ERR` bit that records the cause. -/
  | raise (c : Cause) (bit : Option ErrBit)
  /-- The capacity test of R240: chooses `QPush` or the `raise`, changes nothing. -/
  | pushTest (fr : Frame)
  /-- `QPush`. -/
  | qPush (fr : Frame)
  /-- `CacheRead` of the RETX action. -/
  | cacheRead
  /-- `Transmit`. -/
  | transmit (f : Bytes) (c : Caller)
  /-- `CacheWrite` after an `ok`. -/
  | cacheWrite (f : Bytes) (c : Caller)
  /-- One assignment of RESET. -/
  | clear (e : Element)
  deriving DecidableEq, Repr

/-- One input of the interleaving, oldest first in `State.inputs`: which agent moves next and how (10_state.md R44). -/
inductive Input where
  /-- A command or wire frame is issued. TRANSPORT issuing RXCHUNK is its offer of a chunk. -/
  | issue (who : Issuer) (code : Code)
  /-- An agent takes the next step of what it has in progress: INGRESS and APP_SEND their operation's next primitive, or
  INGRESS the oldest pending chunk; APP_RECV its resume step (44_queue.md R241). -/
  | advance (a : Agent)
  /-- The TXFRAME the block issued on its own takes its next primitive. -/
  | advanceUnit
  deriving DecidableEq, Repr

/-- The machine. -/
structure State where
  /-- The open parameters of 00_scope.md R8; no operation changes them (notes/assumptions/5.md). -/
  params : Params
  /-- `CACHE` (10_state.md R33). -/
  cache : Option Bytes
  /-- `RXBUF` (10_state.md R34), oldest byte first. -/
  rxbuf : Bytes
  /-- `INQ` (10_state.md R35), oldest entry first. -/
  inq : List Frame
  /-- `ERR` (10_state.md R36). -/
  err : Byte
  /-- `RECV_WAIT` (10_state.md R38). -/
  recvWait : Bool
  /-- `TXLOG` (10_state.md R39), oldest write first. -/
  txlog : List (Bytes × TxResult)
  /-- The outbound wire (20_memory.md R60): the bytes that reached it, in write order. -/
  wireOut : Bytes
  /-- The inbound wire (20_memory.md R60): chunks offered and not yet consumed, oldest first (60_exceptions.md R271). -/
  offered : List Bytes
  /-- The transport's draws to come, one per write request (60_exceptions.md R280). -/
  answers : List Answer
  /-- How many write requests have been drawn: the index of the free value used when `answers` is empty. -/
  draws : Nat
  /-- Who issued the command being executed. -/
  issuer : Issuer
  /-- The interleaving still to come. -/
  inputs : List Input
  /-- The values returned to the issuers, in order (70_reset_and_hazards.md R303; notes/assumptions/11.md). -/
  returns : List (Issuer × Result)
  /-- Observation: the causes raised, in order (60_exceptions.md R260, R267; notes/assumptions/11.md). -/
  raised : List Cause
  /-- INGRESS's operation in progress (empty between operations; always empty under `ATOMICITY = event`). -/
  ingressTask : List Prim
  /-- APP_SEND's operation in progress (the same). -/
  sendTask : List Prim
  /-- The block's own TXFRAME in progress (the same); it is no step of INGRESS, so no halt stops it. -/
  unitTask : List Prim
  deriving DecidableEq, Repr

/-- Reasons to stop. No rule of the spec stops the block: every cause of 60_exceptions.md R260 is handled inside an operation
(R269) and every refused operation returns to its issuer (R265), so the type has no constructor; that is safe. -/
inductive Fault where
  deriving DecidableEq, Repr

/-- Reasons a step has no meaning. -/
inductive Refusal where
  /-- Raised only by an arm of `exec` whose instruction has no meaning yet. Safe. -/
  | notModelled (mnemonic : String)
  deriving DecidableEq, Repr

/-- The machine right after RESET (10_state.md R43, 70_reset_and_hazards.md R300), nothing placed. The fields the spec does not
give (params at R8's defaults, the wires, the draws, the issuer, the traces, the tasks) are notes/assumptions/13.md's. -/
def State.reset : State :=
  { params := defaultParams
    cache := none
    rxbuf := []
    inq := []
    err := 0x00#8
    recvWait := false
    txlog := []
    wireOut := []
    offered := []
    answers := []
    draws := 0
    issuer := .agent .appSend
    inputs := []
    returns := []
    raised := []
    ingressTask := []
    sendTask := []
    unitTask := [] }

end Sys2Proof.Machine
end

