-- ==== Sys2Proof/Machine/Flags.lean ====
section
/-! DEFINITION. The one status register `ERR` (10_state.md R36, R37, R40) and the cause codes (60_exceptions.md R260). -/

namespace Sys2Proof.Machine

/-- The bit positions of 10_state.md R36. -/
def ErrBit.pos : ErrBit → Nat
  | .emptyCacheRetx => 0
  | .ingressTxFail => 1
  | .rxbufOverflow => 2
  | .inqOverflow => 3

/-- `ERR[k]`. -/
def errBit (e : Byte) (b : ErrBit) : Bool := e.getLsbD b.pos

/-- `ERR[k] <- 1`; the bits are sticky (10_state.md R36). -/
def setErrBit (e : Byte) (b : ErrBit) : Byte := e ||| (1#8 <<< b.pos)

/-- `INGRESS_HALTED` (10_state.md R37). -/
def ingressHalted (e : Byte) : Bool :=
  errBit e .ingressTxFail || errBit e .rxbufOverflow || errBit e .inqOverflow

/-- A faulted state's `ERR` (60_exceptions.md R268). -/
def isFaulted (e : Byte) : Bool := e != 0#8

/-- The cause codes of 60_exceptions.md R260. -/
def Cause.code : Cause → Byte
  | .checksumMismatch => 0x1#8
  | .streamDesync => 0x2#8
  | .transportWriteFailure => 0x3#8
  | .emptyCacheOnRetx => 0x4#8
  | .contractViolation => 0x5#8
  | .capacityOverflow => 0x6#8

/-- Code 0x0: none, OK. -/
def okCode : Byte := 0x0#8

/-- Whether a capacity admits a length; `none` is unbounded (00_scope.md R8). -/
def fits (cap : Option Nat) (n : Nat) : Bool :=
  match cap with
  | none => true
  | some c => decide (n ≤ c)

end Sys2Proof.Machine
end

