-- ==== Sys2Proof/Machine/Ops.lean ====
section
/-! DEFINITION. The named operations over the state: the primitives of 00_scope.md R12, raising a cause (60_exceptions.md R260,
R269; there is no return from it, R270), returning a value, refusing an operation (R265), and starting an operation. -/

namespace Sys2Proof.Machine

/-- `INGRESS_HALTED` of a state (10_state.md R37). -/
def State.halted (s : State) : Bool := ingressHalted s.err

/-- Returns a value to the issuer. -/
def State.ret (s : State) (r : Result) : State :=
  { s with returns := s.returns ++ [(s.issuer, r)] }

/-- `refuse ContractViolation` (00_scope.md R12, 60_exceptions.md R265): no state element changes, the issuer gets 0x5
(notes/assumptions/6.md). -/
def State.refuse (s : State) : State := s.ret (.status Cause.contractViolation.code)

/-- `raise` (00_scope.md R12), with the `ERR` bit that records the cause, if any (60_exceptions.md R260). Nothing is saved and
control goes nowhere (R269). -/
def State.raise (s : State) (c : Cause) (bit : Option ErrBit) : State :=
  { s with
    err := match bit with
      | none => s.err
      | some b => setErrBit s.err b
    raised := s.raised ++ [c] }

/-- `RxAppend`. -/
def State.rxAppend (s : State) (bs : Bytes) : State := { s with rxbuf := s.rxbuf ++ bs }

/-- The frame `RxTake` returns. -/
def State.rxHead (s : State) : Bytes := s.rxbuf.take CONFIG.frameLen

/-- What `RxTake` leaves. -/
def State.rxTake (s : State) : State := { s with rxbuf := s.rxbuf.drop CONFIG.frameLen }

/-- `CacheWrite`. -/
def State.cacheWrite (s : State) (f : Bytes) : State := { s with cache := some f }

/-- `QPush`. -/
def State.qPush (s : State) (fr : Frame) : State := { s with inq := s.inq ++ [fr] }

/-- What `QPop` leaves. -/
def State.qPop (s : State) : State := { s with inq := s.inq.tail }

/-- The transport's answer to the next write request: the oldest listed draw, or the free value
(60_exceptions.md R280; notes/assumptions/1.md). -/
def State.answer (s : State) : Answer :=
  match s.answers with
  | a :: _ => a
  | [] => Config.transportAnswer s.draws

/-- The result an answer reports. -/
def Answer.result : Answer → TxResult
  | .ok => .ok
  | .fail _ => .fail

/-- The bytes of a write that reach the wire: all of them on `ok`, a drawn part of them from the front on `fail`
(60_exceptions.md R280, 93 U5). -/
def Answer.wired (a : Answer) (f : Bytes) : Bytes :=
  match a with
  | .ok => f
  | .fail n => f.take n

/-- The result the next write request will get. -/
def State.txResult (s : State) : TxResult := Answer.result s.answer

/-- `Transmit`: one write request, logged with its result (10_state.md R39); the draw is used up. -/
def State.transmit (s : State) (f : Bytes) : State :=
  { s with
    txlog := s.txlog ++ [(f, s.txResult)]
    wireOut := s.wireOut ++ Answer.wired s.answer f
    answers := s.answers.tail
    draws := s.draws + 1 }

/-- One assignment of RESET (70_reset_and_hazards.md R300). -/
def State.clear (s : State) (e : Element) : State :=
  match e with
  | .cache => { s with cache := none }
  | .rxbuf => { s with rxbuf := [] }
  | .inq => { s with inq := [] }
  | .err => { s with err := 0x00#8 }
  | .txlog => { s with txlog := [] }

/-- RESET's assignments in order. Under `ATOMICITY = primitive` INGRESS may step between them: a halt after the one to RXBUF and
before the one to ERR leaves its bytes in RXBUF, 18 or more, with ingress not halted, undrained until the next chunk, and an
element written again keeps that value (the model's choice, notes/assumptions/18.md). -/
def resetElements : List Element := [.cache, .rxbuf, .inq, .err, .txlog]

/-- All of RESET's assignments (70_reset_and_hazards.md R300). -/
def State.clearAll (s : State) : State := resetElements.foldl State.clear s

/-- Starts an INGRESS operation: as one step under `ATOMICITY = event`, else as the primitives still to run
(20_memory.md R67). -/
def State.startIngress (s : State) (prims : List Prim) (whole : State → State) : State :=
  match s.params.atomicity with
  | .event => whole s
  | .primitive => { s with ingressTask := prims }

/-- Starts an APP_SEND operation (the same). -/
def State.startSend (s : State) (prims : List Prim) (whole : State → State) : State :=
  match s.params.atomicity with
  | .event => whole s
  | .primitive => { s with sendTask := prims }

/-- Starts a TXFRAME the block issues on its own (the same). -/
def State.startUnit (s : State) (prims : List Prim) (whole : State → State) : State :=
  match s.params.atomicity with
  | .event => whole s
  | .primitive => { s with unitTask := prims }

end Sys2Proof.Machine
end

