-- ==== Sys2Proof/Machine/Operands.lean ====
section
/-! DEFINITION. Who may issue which operation, and when its issuer can step (30_encoding.md R101, R102; 10_state.md R44;
60_exceptions.md R272): the admission every meaning goes through. -/

namespace Sys2Proof.Machine

/-- The groups of operations by who issues them and which agent runs them. -/
inductive OpGroup where
  /-- RESET, SEND, READERR: APP_SEND. -/
  | app
  /-- CRC8, ENCODE, DECODE, VALIDATE, CLASSIFY: APP_SEND, and the block's own units, which use them. -/
  | pure
  /-- RECV: APP_RECV. -/
  | recv
  /-- RXCHUNK: TRANSPORT. -/
  | chunk
  /-- SLICE, DISPATCH, PUSH and the frame actions: the block, inside INGRESS's activity. -/
  | ingress
  /-- TXFRAME: the block. -/
  | transmit
  deriving DecidableEq, Repr

/-- Who may issue (30_encoding.md R101's host column with 10_state.md R44's agents; notes/assumptions/4.md). -/
def OpGroup.permits : OpGroup → Issuer → Bool
  | .app, who => who == .agent .appSend
  | .pure, who => (who == .agent .appSend) || (who == .block)
  | .recv, who => who == .agent .appRecv
  | .chunk, who => who == .agent .transport
  | .ingress, who => who == .block
  | .transmit, who => who == .block

/-- Whether the issuer is between operations; only under `ATOMICITY = primitive` can it be inside one. -/
def State.issuerIdle (s : State) : Bool :=
  match s.issuer with
  | .agent .appSend => s.sendTask.isEmpty
  | .block => s.unitTask.isEmpty
  | _ => true

/-- Whether an admitted operation of the group can step now: INGRESS takes no step while halted (10_state.md R37). -/
def OpGroup.ready : OpGroup → State → Bool
  | .app, s => s.issuerIdle
  | .pure, s => s.issuerIdle
  | .recv, _ => true
  | .chunk, s => !s.halted && s.ingressTask.isEmpty && s.offered.isEmpty
  | .ingress, s => !s.halted && s.ingressTask.isEmpty
  | .transmit, s => s.issuerIdle

/-- Admission (30_encoding.md R102, 60_exceptions.md R265): an operation issued outside its constraints is refused to its
issuer; one whose agent has no step waits (notes/assumptions/7.md); any other runs. -/
def State.attempt (s : State) (g : OpGroup) (admissible : Bool) (wait run : State → State) : State :=
  if g.permits s.issuer && admissible then
    if g.ready s then run s else wait s
  else s.refuse

end Sys2Proof.Machine
end

