-- ==== Sys2Proof/Machine/Checksum.lean ====
section
/-! DEFINITION. The Checksum Engine's operation (40_checksum.md). -/

namespace Sys2Proof.Machine

/-- CRC8 (40_checksum.md R130). -/
def execCrc8 (bs : Bytes) (s : State) : Host.Outcome State Fault Refusal :=
  .next (s.attempt .pure true id fun st => st.ret (.byte (crc8 bs)))

end Sys2Proof.Machine
end

