-- ==== Sys2Proof/WellFormed.lean ====
section
/-! DEFINITION. When an operation's operands are of the types 30_encoding.md R101 gives them, and when a frame-class row holds
a frame of its class (R94). Encodings that fail it are refused (R102). -/

namespace Sys2Proof

open Sys2Proof.Machine

/-- A byte sequence is an `f18`: exactly 18 bytes (10_state.md R32). -/
def isFrame18 (s : Bytes) : Bool := decide (s.length = CONFIG.frameLen)

/-- A record is a `Frame` of 00_scope.md R11: exactly 16 payload bytes. -/
def Frame.wf (fr : Frame) : Bool := decide (fr.payload.length = CONFIG.payloadLen)

/-- The operand types of 30_encoding.md R101; for a wire-frame row, its class predicate of R94. -/
def Instr.wf : Instr → Bool
  | .reset => true
  | .crc8 _ => true
  | .encode _ _ => true
  | .decode _ => true
  | .validate fr => fr.wf
  | .classify fr => fr.wf
  | .rxchunk _ => true
  | .slice => true
  | .dispatch f => isFrame18 f
  | .txframe f => isFrame18 f
  | .send _ _ => true
  | .push fr => fr.wf
  | .recv => true
  | .readerr => true
  | .reservedE => true
  | .reservedF => true
  | .rxCorrupt fr => fr.wf && decide (Machine.classify fr = .corrupt)
  | .rxRetx => true
  | .rxAck => true
  | .rxData fr => fr.wf && decide (Machine.classify fr = .data)

end Sys2Proof
end

