-- ==== Sys2Proof/Machine/FrameCodec.lean ====
section
/-! DEFINITION. The Frame Codec's and the classifier's operations (41_codec.md). All are pure: only a value is returned. -/

namespace Sys2Proof.Machine

/-- ENCODE (41_codec.md R150), refused outside its constraints (R151). -/
def execEncode (len : Byte) (p : Bytes) (s : State) : Host.Outcome State Fault Refusal :=
  .next (s.attempt .pure (encodeAdmits len p) id fun st => st.ret (.frame18 (buildFrame len p)))

/-- DECODE (41_codec.md R153), refused unless given 18 bytes (R154). -/
def execDecode (bs : Bytes) (s : State) : Host.Outcome State Fault Refusal :=
  .next (s.attempt .pure (isFrame18 bs) id fun st => st.ret (.frame (frameOf bs)))

/-- VALIDATE (41_codec.md R155). -/
def execValidate (fr : Frame) (s : State) : Host.Outcome State Fault Refusal :=
  .next (s.attempt .pure fr.wf id fun st => st.ret (.bool (validate fr)))

/-- CLASSIFY (41_codec.md R156). -/
def execClassify (fr : Frame) (s : State) : Host.Outcome State Fault Refusal :=
  .next (s.attempt .pure fr.wf id fun st => st.ret (.frameClass (classify fr)))

end Sys2Proof.Machine
end

