-- ==== Sys2Proof/Machine/Queue.lean ====
section
/-! DEFINITION. The Inbound Queue (44_queue.md): PUSH, RECV and RECV's resume step. -/

namespace Sys2Proof.Machine

/-- Whether INQ takes one more entry (44_queue.md R240). -/
def State.inqFits (s : State) : Bool := fits s.params.inqCap (s.inq.length + 1)

/-- PUSH (44_queue.md R240): the entry is appended, or the overflow is raised and ingress halts. -/
def pushFrame (fr : Frame) (s : State) : State :=
  if s.inqFits then s.qPush fr else s.raise .capacityOverflow (some .inqOverflow)

/-- PUSH as an operation: its operand is a Frame of class DATA (44_queue.md R240; notes/assumptions/9.md). -/
def execPush (fr : Frame) (s : State) : Host.Outcome State Fault Refusal :=
  .next (s.attempt .ingress (fr.wf && decide (classify fr = .data)) id fun st =>
    st.startIngress [.pushTest fr] (pushFrame fr))

/-- `QPop` of a nonempty queue, its head returned to the given agent. -/
def popTo (who : Issuer) (fr : Frame) (s : State) : State :=
  { s.qPop with returns := s.returns ++ [(who, .frame fr)] }

/-- RECV's issue (44_queue.md R241): the oldest entry, or suspension. -/
def recvIssue (s : State) : State :=
  match s.inq with
  | fr :: _ => popTo s.issuer fr s
  | [] => { s with recvWait := true }

/-- RECV (44_queue.md R241); a second one while one is suspended is refused (R244). -/
def execRecv (s : State) : Host.Outcome State Fault Refusal :=
  .next (s.attempt .recv (!s.recvWait) id recvIssue)

/-- RECV's resume step (44_queue.md R241): enabled only when a RECV is suspended and INQ is not empty; else no step. -/
def recvResume (s : State) : State :=
  match s.recvWait, s.inq with
  | true, fr :: _ => { popTo (.agent .appRecv) fr s with recvWait := false }
  | _, _ => s

end Sys2Proof.Machine
end

