-- ==== Sys2Proof/Machine/Controller.lean ====
section
/-! DEFINITION. The Retransmission Controller (43_controller.md): TXFRAME, the four frame actions, DISPATCH, SEND. -/

namespace Sys2Proof.Machine

/-- TXFRAME (43_controller.md R205): the write, then the cache update if it was `ok`. Its result is `State.txResult`. -/
def txframe (f : Bytes) (s : State) : State :=
  match s.txResult with
  | .ok => (s.transmit f).cacheWrite f
  | .fail => s.transmit f

/-- A TXFRAME issued by a frame action: a failed write is raised and halts ingress (43_controller.md R210). -/
def actionWrite (f : Bytes) (s : State) : State :=
  match s.txResult with
  | .ok => txframe f s
  | .fail => (txframe f s).raise .transportWriteFailure (some .ingressTxFail)

/-- `ACT_CORRUPT` (43_controller.md R201). -/
def actCorrupt (s : State) : State := actionWrite retxFrame (s.raise .checksumMismatch none)

/-- `ACT_RETX` (43_controller.md R202): the cached bytes as they are. -/
def actRetx (s : State) : State :=
  match s.cache with
  | none => s.raise .emptyCacheOnRetx (some .emptyCacheRetx)
  | some c => actionWrite c s

/-- `ACT_ACK` (43_controller.md R203): nothing. -/
def actAck (s : State) : State := s

/-- `ACT_DATA` (43_controller.md R204): the push precedes the ACK (20_memory.md R71); an overflow stops the action. -/
def actData (fr : Frame) (s : State) : State :=
  if s.inqFits then actionWrite ackFrame (pushFrame fr s) else pushFrame fr s

/-- DISPATCH (43_controller.md R200): exactly one action. -/
def dispatch (f : Bytes) (s : State) : State :=
  match classify (frameOf f) with
  | .corrupt => actCorrupt s
  | .retx => actRetx s
  | .ack => actAck s
  | .data => actData (frameOf f) s

/-- DISPATCH as an operation. -/
def execDispatch (f : Bytes) (s : State) : Host.Outcome State Fault Refusal :=
  .next (s.attempt .ingress (isFrame18 f) id fun st => st.startIngress [.dispatch f] (dispatch f))

/-- TXFRAME as an operation: its result goes back to the block. -/
def execTxframe (f : Bytes) (s : State) : Host.Outcome State Fault Refusal :=
  .next (s.attempt .transmit (isFrame18 f) id fun st =>
    st.startUnit [.transmit f .txframe] fun x => (txframe f x).ret (.written x.txResult))

/-- SEND's status for a write result (43_controller.md R206). -/
def sendStatus : TxResult → Byte
  | .ok => okCode
  | .fail => Cause.transportWriteFailure.code

/-- SEND's write and status return (43_controller.md R206). -/
def sendWrite (f : Bytes) (s : State) : State := (txframe f s).ret (.status (sendStatus s.txResult))

/-- SEND (43_controller.md R206): refused when ENCODE refuses; it works while ingress is halted. -/
def execSend (len : Byte) (p : Bytes) (s : State) : Host.Outcome State Fault Refusal :=
  .next (s.attempt .app (encodeAdmits len p) id fun st =>
    st.startSend [.transmit (buildFrame len p) .send] (sendWrite (buildFrame len p)))

/-- A wire frame of class CORRUPT handed to the controller (43_controller.md R201). -/
def execRxCorrupt (fr : Frame) (s : State) : Host.Outcome State Fault Refusal :=
  .next (s.attempt .ingress (fr.wf && decide (classify fr = .corrupt)) id fun st =>
    st.startIngress [.raise .checksumMismatch none, .transmit retxFrame .action] actCorrupt)

/-- The RETX frame handed to the controller (43_controller.md R202). -/
def execRxRetx (s : State) : Host.Outcome State Fault Refusal :=
  .next (s.attempt .ingress true id fun st => st.startIngress [.cacheRead] actRetx)

/-- The ACK frame handed to the controller (43_controller.md R203). -/
def execRxAck (s : State) : Host.Outcome State Fault Refusal :=
  .next (s.attempt .ingress true id actAck)

/-- A wire frame of class DATA handed to the controller (43_controller.md R204). -/
def execRxData (fr : Frame) (s : State) : Host.Outcome State Fault Refusal :=
  .next (s.attempt .ingress (fr.wf && decide (classify fr = .data)) id fun st =>
    st.startIngress [.pushTest fr, .transmit ackFrame .action] (actData fr))

end Sys2Proof.Machine
end

