-- ==== Sys2Proof/Machine/Assembler.lean ====
section
/-! DEFINITION. The Stream Assembler (42_assembler.md): SLICE, the drain loop, RXCHUNK. -/

namespace Sys2Proof.Machine

/-- What `RxTake` and SLICE require: a whole frame is buffered (00_scope.md R12, 42_assembler.md R181). -/
def State.rxReady (s : State) : Bool := decide (CONFIG.frameLen ≤ s.rxbuf.length)

/-- The loop test of 42_assembler.md R180: a whole frame is buffered and ingress is not halted. -/
def State.canSlice (s : State) : Bool := s.rxReady && !s.halted

/-- SLICE as an operation (42_assembler.md R181), refused when fewer than 18 bytes are buffered (notes/assumptions/9.md). -/
def execSlice (s : State) : Host.Outcome State Fault Refusal :=
  .next (s.attempt .ingress s.rxReady id fun st => st.rxTake.ret (.frame18 st.rxHead))

/-- The drain loop of 42_assembler.md R180, at most n frames. Each pass takes the frame off before it dispatches it (R181). -/
def drain : Nat → State → State
  | 0, s => s
  | n + 1, s => if s.canSlice then drain n (dispatch s.rxHead s.rxTake) else s

/-- Whether RXBUF takes the chunk (42_assembler.md R180). -/
def State.rxbufFits (s : State) (bs : Bytes) : Bool := fits s.params.rxbufCap (s.rxbuf.length + bs.length)

/-- RXCHUNK as one step (42_assembler.md R180). The buffer holds at most its length's worth of frames. -/
def rxchunk (bs : Bytes) (s : State) : State :=
  if s.rxbufFits bs then drain (s.rxbuf.length + bs.length) (s.rxAppend bs)
  else s.raise .capacityOverflow (some .rxbufOverflow)

/-- The ingress event on a chunk, in either atomicity. -/
def ingressEvent (bs : Bytes) (s : State) : State := s.startIngress [.rxTest bs] (rxchunk bs)

/-- The chunk stays on the inbound wire (60_exceptions.md R271; notes/assumptions/7.md). -/
def leaveOffered (bs : Bytes) (s : State) : State := { s with offered := s.offered ++ [bs] }

/-- RXCHUNK (42_assembler.md R180): only TRANSPORT offers chunks; while INGRESS has no step the chunk is not accepted (R185). -/
def execRxchunk (bs : Bytes) (s : State) : Host.Outcome State Fault Refusal :=
  .next (s.attempt .chunk true (leaveOffered bs) (ingressEvent bs))

end Sys2Proof.Machine
end

