-- ==== Sys2Proof/Machine/Status.lean ====
section
/-! DEFINITION. RESET (70_reset_and_hazards.md R300), READERR (60_exceptions.md R275) and the two reserved codes
(30_encoding.md R102). -/

namespace Sys2Proof.Machine

/-- RESET (70_reset_and_hazards.md R300): refused while a RECV is suspended. RECV_WAIT is tested here, at the issue, and not
assigned: under `ATOMICITY = primitive` a RECV that suspends between the assignments stays suspended (the model's choice,
notes/assumptions/17.md). -/
def execReset (s : State) : Host.Outcome State Fault Refusal :=
  .next (s.attempt .app (!s.recvWait) id fun st => st.startSend (resetElements.map Prim.clear) State.clearAll)

/-- READERR (60_exceptions.md R275): reading does not clear. -/
def execReaderr (s : State) : Host.Outcome State Fault Refusal :=
  .next (s.attempt .app true id fun st => st.ret (.byte st.err))

/-- op 0xE (30_encoding.md R102): refused with ContractViolation, whoever issues it. -/
def execReservedE (s : State) : Host.Outcome State Fault Refusal := .next s.refuse

/-- op 0xF (30_encoding.md R102): the same. -/
def execReservedF (s : State) : Host.Outcome State Fault Refusal := .next s.refuse

end Sys2Proof.Machine
end

