-- ==== Sys2Proof/Machine/Primitive.lean ====
section
/-! DEFINITION. An agent's next step on what it has in progress: one primitive under `ATOMICITY = primitive` (20_memory.md R67,
R71), the oldest pending chunk (60_exceptions.md R271), or RECV's resume (44_queue.md R241). -/

namespace Sys2Proof.Machine

/-- Returns a value to a named issuer (an operation that ends after its issue step). -/
def State.retTo (s : State) (who : Issuer) (r : Result) : State :=
  { s with returns := s.returns ++ [(who, r)] }

/-- The end of a TXFRAME whose write gave r: what its caller does with it (43_controller.md R205, R206, R210). -/
def callerEnd (c : Caller) (r : TxResult) (s : State) : State :=
  match c with
  | .action => s
  | .send => s.retTo (.agent .appSend) (.status (sendStatus r))
  | .txframe => s.retTo .block (.written r)

/-- The state after one primitive. -/
def primState (p : Prim) (s : State) : State :=
  match p with
  | .rxTest _ => s
  | .rxAppend bs => s.rxAppend bs
  | .drain => s
  | .rxTake => if s.rxReady then s.rxTake else s
  | .dispatch _ => s
  | .raise c bit => s.raise c bit
  | .pushTest _ => s
  | .qPush fr => s.qPush fr
  | .cacheRead => s
  | .transmit f c =>
    match s.txResult with
    | .ok => s.transmit f
    | .fail => callerEnd c .fail (s.transmit f)
  | .cacheWrite f c => callerEnd c .ok (s.cacheWrite f)
  | .clear e => s.clear e

/-- The primitives that come next because of it, before the rest of the operation. -/
def primThen (p : Prim) (s : State) : List Prim :=
  match p with
  | .rxTest bs =>
    if s.rxbufFits bs then [.rxAppend bs, .drain] else [.raise .capacityOverflow (some .rxbufOverflow)]
  | .rxAppend _ => []
  | .drain => if s.canSlice then [.rxTake, .drain] else []
  | .rxTake => if s.rxReady then [.dispatch s.rxHead] else []
  | .dispatch f =>
    match classify (frameOf f) with
    | .corrupt => [.raise .checksumMismatch none, .transmit retxFrame .action]
    | .retx => [.cacheRead]
    | .ack => []
    | .data => [.pushTest (frameOf f), .transmit ackFrame .action]
  | .raise _ _ => []
  | .pushTest fr => if s.inqFits then [.qPush fr] else [.raise .capacityOverflow (some .inqOverflow)]
  | .qPush _ => []
  | .cacheRead =>
    match s.cache with
    | none => [.raise .emptyCacheOnRetx (some .emptyCacheRetx)]
    | some c => [.transmit c .action]
  | .transmit f c =>
    match s.txResult, c with
    | .ok, _ => [.cacheWrite f c]
    | .fail, .action => [.raise .transportWriteFailure (some .ingressTxFail)]
    | .fail, _ => []
  | .cacheWrite _ _ => []
  | .clear _ => []

/-- What is left of INGRESS's operation after a primitive: a halt ends it (43_controller.md R210, 42_assembler.md R180). -/
def ingressRest (p : Prim) (rest : List Prim) (s : State) : List Prim :=
  if (primState p s).halted then [] else primThen p s ++ rest

/-- INGRESS's next step, none while it is halted (10_state.md R37): the operation in progress, else the oldest pending chunk. -/
def advanceIngress (s : State) : State :=
  if s.halted then s
  else
    match s.ingressTask with
    | p :: rest => { primState p s with ingressTask := ingressRest p rest s }
    | [] =>
      match s.offered with
      | bs :: rest => ingressEvent bs { s with offered := rest }
      | [] => s

/-- APP_SEND's next step: the operation in progress. -/
def advanceSend (s : State) : State :=
  match s.sendTask with
  | p :: rest => { primState p s with sendTask := primThen p s ++ rest }
  | [] => s

/-- The next step of the TXFRAME the block issued on its own. -/
def advanceUnit (s : State) : State :=
  match s.unitTask with
  | p :: rest => { primState p s with unitTask := primThen p s ++ rest }
  | [] => s

/-- One agent's next step; TRANSPORT has nothing in progress. -/
def advanceAgent (a : Agent) (s : State) : Host.Outcome State Fault Refusal :=
  match a with
  | .ingress => .next (advanceIngress s)
  | .appSend => .next (advanceSend s)
  | .appRecv => .next (recvResume s)
  | .transport => .next s

/-- The block's own TXFRAME takes its next step. -/
def stepUnit (s : State) : Host.Outcome State Fault Refusal := .next (advanceUnit s)

/-- n further steps of INGRESS with no other agent between them. -/
def advanceIngressN : Nat → State → State
  | 0, s => s
  | n + 1, s => advanceIngressN n (advanceIngress s)

/-- n further steps of the block's own TXFRAME with no other agent between them. -/
def advanceUnitN : Nat → State → State
  | 0, s => s
  | n + 1, s => advanceUnitN n (advanceUnit s)

/-- n further steps of APP_SEND with no other agent between them. -/
def advanceSendN : Nat → State → State
  | 0, s => s
  | n + 1, s => advanceSendN n (advanceSend s)

end Sys2Proof.Machine
end

