-- ==== Sys2Proof/Machine/Dispatch.lean ====
section
/-! DEFINITION. The meaning of each instruction, by one direct call. -/

namespace Sys2Proof.Machine

def exec (i : Instr) (s : State) : Host.Outcome State Fault Refusal :=
  match i with
  | .reset => Sys2Proof.Machine.execReset s
  | .crc8 bs => Sys2Proof.Machine.execCrc8 bs s
  | .encode len p => Sys2Proof.Machine.execEncode len p s
  | .decode bs => Sys2Proof.Machine.execDecode bs s
  | .validate fr => Sys2Proof.Machine.execValidate fr s
  | .classify fr => Sys2Proof.Machine.execClassify fr s
  | .rxchunk bs => Sys2Proof.Machine.execRxchunk bs s
  | .slice => Sys2Proof.Machine.execSlice s
  | .dispatch f => Sys2Proof.Machine.execDispatch f s
  | .txframe f => Sys2Proof.Machine.execTxframe f s
  | .send len p => Sys2Proof.Machine.execSend len p s
  | .push fr => Sys2Proof.Machine.execPush fr s
  | .recv => Sys2Proof.Machine.execRecv s
  | .readerr => Sys2Proof.Machine.execReaderr s
  | .reservedE => Sys2Proof.Machine.execReservedE s
  | .reservedF => Sys2Proof.Machine.execReservedF s
  | .rxCorrupt fr => Sys2Proof.Machine.execRxCorrupt fr s
  | .rxRetx => Sys2Proof.Machine.execRxRetx s
  | .rxAck => Sys2Proof.Machine.execRxAck s
  | .rxData fr => Sys2Proof.Machine.execRxData fr s

end Sys2Proof.Machine
end

