-- ==== Sys2Proof/Decode.lean ====
section
/-! DEFINITION. Decoding of the two formats of 30_encoding.md (total, rejecting by name), the encoder written from the same
tables, and the reading of an opcode-table word. -/

namespace Sys2Proof

open Sys2Proof.Machine

/-- Why an encoding is rejected; every rejection is the ContractViolation of 30_encoding.md R102. -/
inductive DecodeError where
  /-- The operands are not of the number and types of R101. -/
  | operandTypes
  /-- A wire frame is not exactly 18 bytes (R90). -/
  | frameLength
  deriving DecidableEq, Repr

/-- An operand of type `f18`. -/
def takeFrame18 (f : Bytes) (i : Instr) : Except DecodeError Instr :=
  if isFrame18 f then .ok i else .error .operandTypes

/-- An operand of type `Frame`. -/
def takeFrame (fr : Frame) (i : Instr) : Except DecodeError Instr :=
  if fr.wf then .ok i else .error .operandTypes

/-- Format `cmd`: the op map of 30_encoding.md R101. -/
def decodeCmd (op : BitVec 4) (operands : List Operand) : Except DecodeError Instr :=
  match op.toNat, operands with
  | 0x0, [] => .ok .reset
  | 0x1, [.bytes bs] => .ok (.crc8 bs)
  | 0x2, [.byte len, .bytes p] => .ok (.encode len p)
  | 0x3, [.bytes bs] => .ok (.decode bs)
  | 0x4, [.frame fr] => takeFrame fr (.validate fr)
  | 0x5, [.frame fr] => takeFrame fr (.classify fr)
  | 0x6, [.bytes bs] => .ok (.rxchunk bs)
  | 0x7, [] => .ok .slice
  | 0x8, [.bytes f] => takeFrame18 f (.dispatch f)
  | 0x9, [.bytes f] => takeFrame18 f (.txframe f)
  | 0xA, [.byte len, .bytes p] => .ok (.send len p)
  | 0xB, [.frame fr] => takeFrame fr (.push fr)
  | 0xC, [] => .ok .recv
  | 0xD, [] => .ok .readerr
  | 0xE, [] => .ok .reservedE
  | 0xF, [] => .ok .reservedF
  | _, _ => .error .operandTypes

/-- Format `frame18`: the class table of 30_encoding.md R94. -/
def decodeWire (s : Bytes) : Except DecodeError Instr :=
  if isFrame18 s then
    match classify (frameOf s) with
    | .corrupt => .ok (.rxCorrupt (frameOf s))
    | .retx => .ok .rxRetx
    | .ack => .ok .rxAck
    | .data => .ok (.rxData (frameOf s))
  else .error .frameLength

/-- The decoder, total on every encoding. -/
def decode : Code → Except DecodeError Instr
  | .cmd op operands => decodeCmd op operands
  | .wire s => decodeWire s

/-- The encoder, from the op map of 30_encoding.md R101 and the frame layout of R90. -/
def encode : Instr → Code
  | .reset => .cmd 0x0#4 []
  | .crc8 bs => .cmd 0x1#4 [.bytes bs]
  | .encode len p => .cmd 0x2#4 [.byte len, .bytes p]
  | .decode bs => .cmd 0x3#4 [.bytes bs]
  | .validate fr => .cmd 0x4#4 [.frame fr]
  | .classify fr => .cmd 0x5#4 [.frame fr]
  | .rxchunk bs => .cmd 0x6#4 [.bytes bs]
  | .slice => .cmd 0x7#4 []
  | .dispatch f => .cmd 0x8#4 [.bytes f]
  | .txframe f => .cmd 0x9#4 [.bytes f]
  | .send len p => .cmd 0xA#4 [.byte len, .bytes p]
  | .push fr => .cmd 0xB#4 [.frame fr]
  | .recv => .cmd 0xC#4 []
  | .readerr => .cmd 0xD#4 []
  | .reservedE => .cmd 0xE#4 []
  | .reservedF => .cmd 0xF#4 []
  | .rxCorrupt fr => .wire (frameBytes fr)
  | .rxRetx => .wire retxFrame
  | .rxAck => .wire ackFrame
  | .rxData fr => .wire (frameBytes fr)

/-- The 18 bytes of a 144-bit table value: byte 0 in bits 143:136, byte 17 in bits 7:0 (30_encoding.md R90). -/
def bytesOfTableValue (w : Nat) : Bytes :=
  (List.range CONFIG.frameLen).map fun k => BitVec.ofNat 8 (w >>> (8 * (CONFIG.frameLen - 1 - k)))

/-- The all-zero `Frame`. -/
def zeroFrame : Frame := { length := 0#8, payload := rep CONFIG.payloadLen 0#8, crc := 0#8 }

/-- The operands of an op when every operand bit is zero: a zero byte, the empty byte sequence, 18 zero bytes for an `f18`,
the all-zero `Frame` (notes/assumptions/10.md). -/
def zeroOperands (op : BitVec 4) : List Operand :=
  match op.toNat with
  | 0x1 | 0x3 | 0x6 => [.bytes []]
  | 0x2 | 0xA => [.byte 0#8, .bytes []]
  | 0x4 | 0x5 | 0xB => [.frame zeroFrame]
  | 0x8 | 0x9 => [.bytes (rep CONFIG.frameLen 0#8)]
  | _ => []

/-- The encoding an opcode-table word stands for: a `cmd` row has its op in bits 3:0 of at most one byte, a `frame18` row has
144 bits numbered as 30_encoding.md R90 numbers them (notes/assumptions/10.md). -/
def codeOfTableWord (nbits w : Nat) : Option Code :=
  if nbits = 8 * CONFIG.frameLen then some (.wire (bytesOfTableValue w))
  else if nbits ≤ 8 then some (.cmd (BitVec.ofNat 4 w) (zeroOperands (BitVec.ofNat 4 w)))
  else none

/-- The instruction the decoder reads from an opcode-table word. -/
def decodeTableWord (nbits w : Nat) : Option Instr :=
  match codeOfTableWord nbits w with
  | some c =>
    match decode c with
    | .ok i => some i
    | .error _ => none
  | none => none

end Sys2Proof
end

