-- ==== Sys2Proof/Machine/Fetch.lean ====
section
/-! DEFINITION. Taking the next input of the interleaving, and placing one command there (notes/assumptions/3.md, 12.md). -/

namespace Sys2Proof.Machine

/-- The next input, if any. -/
def nextInput (s : State) : Option Input := s.inputs.head?

/-- The input is used up. -/
def State.popInput (s : State) : State := { s with inputs := s.inputs.tail }

/-- The input is used up and its issuer is the one whose command runs. -/
def State.issuedBy (s : State) (who : Issuer) : State := { s.popInput with issuer := who }

/-- No input is left: no agent steps (70_reset_and_hazards.md R303). -/
def idleStep (s : State) : Host.Outcome State Fault Refusal := .next s

/-- An encoding the decoder rejects, whatever the error: refused to its issuer (30_encoding.md R102; notes/assumptions/16.md). -/
def rejectCode (_e : DecodeError) (s : State) : Host.Outcome State Fault Refusal := .next s.refuse

/-- The issuer an instruction is placed for: the one 30_encoding.md R101 allows. -/
def properIssuer : Instr → Issuer
  | .reset | .crc8 _ | .encode _ _ | .decode _ | .validate _ | .classify _ => .agent .appSend
  | .send _ _ | .readerr | .reservedE | .reservedF => .agent .appSend
  | .rxchunk _ => .agent .transport
  | .recv => .agent .appRecv
  | .slice | .dispatch _ | .txframe _ | .push _ => .block
  | .rxCorrupt _ | .rxRetx | .rxAck | .rxData _ => .block

/-- Places an opcode-table word's command as the next input; nothing else changes. -/
def placeTableWord (s : State) (nbits w : Nat) : State :=
  match codeOfTableWord nbits w, decodeTableWord nbits w with
  | some c, some i => { s with inputs := .issue (properIssuer i) c :: s.inputs }
  | _, _ => s

end Sys2Proof.Machine
end

