-- ==== Sys2Proof/Machine/Step.lean ====
section
/-! DEFINITION. One step: the next input of the interleaving is carried out (10_state.md R44, 20_memory.md R69). -/

namespace Sys2Proof.Machine

/-- One step of the single timeline. -/
def step (s : State) : Host.Outcome State Fault Refusal :=
  match nextInput s with
  | none => idleStep s
  | some (.issue who code) =>
    match decode code with
    | .ok i => exec i (s.issuedBy who)
    | .error e => rejectCode e (s.issuedBy who)
  | some (.advance a) => advanceAgent a s.popInput
  | some .advanceUnit => stepUnit s.popInput

/-- s with the opcode-table word's command as its next input (notes/assumptions/10.md, 12.md). -/
def State.withFetchWord (s : State) (nbits w : Nat) : State := placeTableWord s nbits w

end Sys2Proof.Machine
end

