-- ==== Sys2Proof/Safety.lean ====
section
/-! DEFINITION. The terms the claims use: the faulted state and the observation of a run (60_exceptions.md R268,
70_reset_and_hazards.md R303), the invariant of the state, bit errors of a frame (40_checksum.md R134), and schedules with
their fairness (44_queue.md R243). -/

namespace Sys2Proof.Machine

/-- A faulted state (60_exceptions.md R268). -/
def State.faulted (s : State) : Bool := isFaulted s.err

/-- What a run leaves to be seen (70_reset_and_hazards.md R303). -/
structure Observation where
  txlog : List (Bytes × TxResult)
  inq : List Frame
  cache : Option Bytes
  err : Byte
  rxbuf : Bytes
  returned : List Result
  deriving DecidableEq, Repr

/-- Whether an issuer is the application (10_state.md R44). -/
def isApplication (who : Issuer) : Bool := (who == .agent .appSend) || (who == .agent .appRecv)

/-- The observation of a state (70_reset_and_hazards.md R303). -/
def State.observe (s : State) : Observation :=
  { txlog := s.txlog
    inq := s.inq
    cache := s.cache
    err := s.err
    rxbuf := s.rxbuf
    returned := (s.returns.filter fun e => isApplication e.1).map (·.2) }

/-- The end of a run (70_reset_and_hazards.md R303): nothing further is issued, no chunk can be taken, nothing is in progress,
and a suspended RECV finds INQ empty. -/
def State.ended (s : State) : Bool :=
  s.inputs.isEmpty && (s.offered.isEmpty || s.halted) && (s.ingressTask.isEmpty && s.sendTask.isEmpty && s.unitTask.isEmpty) &&
    (!s.recvWait || s.inq.isEmpty)

/-- A queue entry as 10_state.md R35 says: a Frame of class DATA. -/
def isDataFrame (fr : Frame) : Bool := fr.wf && decide (classify fr = .data)

/-- The last frame of TXLOG whose result is ok (43_controller.md R208). -/
def lastOk (log : List (Bytes × TxResult)) : Option Bytes :=
  ((log.filter fun e => decide (e.2 = .ok)).getLast?).map (·.1)

/-- A primitive in progress carries whole frames, queues only DATA, and raises an overflow only of a finite capacity. -/
def Prim.wf (ps : Params) : Prim → Bool
  | .rxTest _ => true
  | .rxAppend _ => true
  | .drain => true
  | .rxTake => true
  | .dispatch f => isFrame18 f
  | .raise _ bit =>
    (decide (bit ≠ some .rxbufOverflow) || ps.rxbufCap.isSome) && (decide (bit ≠ some .inqOverflow) || ps.inqCap.isSome)
  | .pushTest fr => isDataFrame fr
  | .qPush fr => isDataFrame fr
  | .cacheRead => true
  | .transmit f _ => isFrame18 f
  | .cacheWrite f _ => isFrame18 f
  | .clear _ => true

/-- An append whose capacity test has been passed still finds room. -/
def Prim.hasRoom (s : State) : Prim → Bool
  | .rxAppend bs => fits s.params.rxbufCap (s.rxbuf.length + bs.length)
  | .qPush _ => fits s.params.inqCap (s.inq.length + 1)
  | _ => true

/-- The two appends, each of which only its own test puts in front. -/
def Prim.isAppend : Prim → Bool
  | .rxAppend _ | .qPush _ => true
  | _ => false

/-- A primitive of a write that is no frame action's: its failure raises nothing (43_controller.md R205, R206). -/
def Prim.isWrite : Prim → Bool
  | .transmit _ c | .cacheWrite _ c => decide (c ≠ .action)
  | _ => false

/-- One assignment of RESET. -/
def Prim.isClear : Prim → Bool
  | .clear _ => true
  | _ => false

/-- All the primitives in progress. -/
def State.tasks (s : State) : List Prim := s.ingressTask ++ s.sendTask ++ s.unitTask

/-- The invariant of the state: what 10_state.md R33 to R37 and 43_controller.md R208 say of every state a run reaches. -/
structure State.Inv (s : State) : Prop where
  /-- CACHE holds exactly 18 bytes (R33). -/
  cacheFrame : ∀ f, s.cache = some f → isFrame18 f = true
  /-- Every INQ entry is a validated non-control Frame (R35). -/
  queueData : ∀ fr ∈ s.inq, isDataFrame fr = true
  /-- Every write is one 18-byte frame (20_memory.md R66). -/
  logFrames : ∀ e ∈ s.txlog, isFrame18 e.1 = true
  /-- ERR bits 7:4 read as 0 (R36). -/
  errReserved : s.err &&& 0xF0#8 = 0#8
  /-- RXBUF_OVERFLOW is never set when RXBUF_CAP is unbounded (R36). -/
  errRxbuf : s.params.rxbufCap = none → errBit s.err .rxbufOverflow = false
  /-- INQ_OVERFLOW is never set when INQ_CAP is unbounded (R36). -/
  errInq : s.params.inqCap = none → errBit s.err .inqOverflow = false
  /-- RXBUF is within RXBUF_CAP (R34). -/
  rxbufCapacity : fits s.params.rxbufCap s.rxbuf.length = true
  /-- INQ is within INQ_CAP (R35). -/
  inqCapacity : fits s.params.inqCap s.inq.length = true
  /-- The operations in progress are well formed. -/
  tasksWf : ∀ p ∈ s.tasks, p.wf s.params = true
  /-- The next primitive of INGRESS, if it is an append, has room (R34, R35). -/
  headRoom : ∀ p ∈ s.ingressTask.head?, p.hasRoom s = true
  /-- No append stands further back in INGRESS's operation. -/
  tailPlain : ∀ p ∈ s.ingressTask.tail, p.isAppend = false
  /-- APP_SEND has only RESET's assignments and SEND's write in progress (10_state.md R44). -/
  sendPrims : ∀ p ∈ s.sendTask, (p.isWrite || p.isClear) = true
  /-- The block on its own has only TXFRAME's write in progress. -/
  unitPrims : ∀ p ∈ s.unitTask, p.isWrite = true
  /-- A halt ends INGRESS's operation (R37, 43_controller.md R210). -/
  haltedIdle : s.halted = true → s.ingressTask = []
  /-- Under ATOMICITY = event nothing is in progress between steps (20_memory.md R67). -/
  eventIdle : s.params.atomicity = .event → s.tasks = []
  /-- Outside an ingress event, fewer than 18 bytes are buffered unless ingress is halted (R34; under
  ATOMICITY = primitive notes/assumptions/18.md). -/
  eventDrained : s.params.atomicity = .event → s.halted = false → s.rxbuf.length < CONFIG.frameLen
  /-- CACHE is the last frame written with result ok (43_controller.md R208; under ATOMICITY = primitive
  notes/assumptions/18.md). -/
  eventCache : s.params.atomicity = .event → s.cache = lastOk s.txlog

/-- The internal operations of 30_encoding.md R101 (op 0x7, 0x8, 0x9, 0xB): no agent issues them. -/
def isInternal : Instr → Bool
  | .slice | .dispatch _ | .txframe _ | .push _ => true
  | _ => false

/-- The wire-frame rows of 30_encoding.md R103. -/
def isWireFrame : Instr → Bool
  | .rxCorrupt _ | .rxRetx | .rxAck | .rxData _ => true
  | _ => false

/-- The pure operations and READERR (20_memory.md R68). -/
def isPure : Instr → Bool
  | .crc8 _ | .encode _ _ | .decode _ | .validate _ | .classify _ | .readerr => true
  | _ => false

/-- APP_SEND issues, between its operations. -/
abbrev State.appTurn (s : State) : Prop := s.issuer = .agent .appSend ∧ s.sendTask = []

/-- TRANSPORT offers a chunk that INGRESS can take: not halted, nothing in progress, no older chunk pending. -/
abbrev State.chunkTurn (s : State) : Prop :=
  s.issuer = .agent .transport ∧ s.halted = false ∧ s.ingressTask = [] ∧ s.offered = []

/-- One of the block's units issues a write or a pure operation, between its own TXFRAMEs. -/
abbrev State.writerTurn (s : State) : Prop := s.issuer = .block ∧ s.unitTask = []

/-- One of the block's units issues an internal operation of INGRESS's activity, which is between operations and not halted. -/
abbrev State.unitTurn (s : State) : Prop := s.issuer = .block ∧ s.ingressTask = [] ∧ s.halted = false

/-- The constraints on an operation's operands, and on the elements its admission reads (30_encoding.md R101;
41_codec.md R151, R154; 42_assembler.md R181; 44_queue.md R240, R244; 70_reset_and_hazards.md R300). -/
def admissible (s : State) : Instr → Bool
  | .reset => !s.recvWait
  | .encode len p => encodeAdmits len p
  | .decode bs => isFrame18 bs
  | .validate fr => fr.wf
  | .classify fr => fr.wf
  | .slice => s.rxReady
  | .dispatch f => isFrame18 f
  | .txframe f => isFrame18 f
  | .send len p => encodeAdmits len p
  | .push fr => isDataFrame fr
  | .recv => !s.recvWait
  | .rxCorrupt fr => fr.wf && decide (Machine.classify fr = .corrupt)
  | .rxData fr => isDataFrame fr
  | .reservedE => false
  | .reservedF => false
  | .crc8 _ | .rxchunk _ | .readerr | .rxRetx | .rxAck => true

/-- The operations APP_SEND issues (10_state.md R44). -/
def isAppSend : Instr → Bool
  | .reset | .send _ _ | .readerr => true
  | .crc8 _ | .encode _ _ | .decode _ | .validate _ | .classify _ => true
  | _ => false

/-- The operations of INGRESS's activity: SLICE, DISPATCH, PUSH and the frame actions. -/
def isIngress : Instr → Bool
  | .slice | .dispatch _ | .push _ => true
  | .rxCorrupt _ | .rxRetx | .rxAck | .rxData _ => true
  | _ => false

/-- How many operands the op has (30_encoding.md R101). -/
def operandCount (op : BitVec 4) : Nat :=
  match op.toNat with
  | 0x2 | 0xA => 2
  | 0x1 | 0x3 | 0x4 | 0x5 | 0x6 | 0x8 | 0x9 | 0xB => 1
  | _ => 0

/-- What 43_controller.md R205 and 60_exceptions.md R280 say one write request leaves, for the transport's answer a. -/
def State.afterWrite (s : State) (f : Bytes) (a : Answer) : State :=
  match a with
  | .ok =>
    { s with
      cache := some f
      txlog := s.txlog ++ [(f, .ok)]
      wireOut := s.wireOut ++ f
      answers := s.answers.tail
      draws := s.draws + 1 }
  | .fail n =>
    { s with
      txlog := s.txlog ++ [(f, .fail)]
      wireOut := s.wireOut ++ f.take n
      answers := s.answers.tail
      draws := s.draws + 1 }

/-- What 43_controller.md R210 adds when the write of a frame action failed. -/
def State.afterActionWrite (s : State) (f : Bytes) (a : Answer) : State :=
  match a with
  | .ok => s.afterWrite f .ok
  | .fail n =>
    { s.afterWrite f (.fail n) with
      err := s.err ||| 0x02#8
      raised := s.raised ++ [.transportWriteFailure] }

/-- A refusal to the issuer: only the value 0x5 is returned (60_exceptions.md R265). -/
def State.refusedWith5 (s : State) : State := { s with returns := s.returns ++ [(s.issuer, .status 0x05#8)] }

/-- The same state under the other atomicity. -/
def State.withAtomicity (s : State) (a : Atomicity) : State := { s with params := { s.params with atomicity := a } }

/-- The input by which TRANSPORT offers a chunk. -/
def chunkInput (bs : Bytes) : Input := .issue (.agent .transport) (.cmd 0x6#4 [.bytes bs])

/-- The input by which APP_SEND issues RESET. -/
def resetInput : Input := .issue (.agent .appSend) (.cmd 0x0#4 [])

/-- The input by which APP_RECV issues RECV. -/
def recvInput : Input := .issue (.agent .appRecv) (.cmd 0xC#4 [])

/-- The input by which APP_SEND issues SEND. -/
def sendInput (len : Byte) (p : Bytes) : Input := .issue (.agent .appSend) (.cmd 0xA#4 [.byte len, .bytes p])

/-- The input by which the controller issues PUSH. -/
def pushInput (fr : Frame) : Input := .issue .block (.cmd 0xB#4 [.frame fr])

/-- `s` with bit k of an 18-byte frame flipped; bit 0 is bit 7 of byte 0, bit 143 is bit 0 of byte 17 (40_checksum.md R134). -/
def flipBit (k : Nat) (f : Bytes) : Bytes := f.modify (k / 8) fun b => b ^^^ (0x80#8 >>> (k % 8))

/-- Bytewise XOR of two sequences (40_checksum.md R133). -/
def xorBytes (xs ys : Bytes) : Bytes := List.zipWith (· ^^^ ·) xs ys

/-- An input other than a RESET and a command the block issues: what agents outside the block do without RESET. -/
def isPlainInput : Input → Bool
  | .issue .block _ => false
  | .issue who c => decide ((Input.issue who c) ≠ resetInput)
  | _ => true

/-- The frames returned to APP_RECV, in order. -/
def State.received (s : State) : List Frame :=
  s.returns.filterMap fun e =>
    match e with
    | (.agent .appRecv, .frame fr) => some fr
    | _ => none

/-- How many writes of ACK_FRAME TXLOG lists. -/
def State.ackWrites (s : State) : Nat := (s.txlog.filter fun e => decide (e.1 = ackFrame)).length

/-- One step with the given input as the only one to come. -/
def stepOn (x : Input) (s : State) : State :=
  match step { s with inputs := [x] } with
  | .next t => t
  | .fault _ => s
  | .refused _ => s

/-- The states of an endless run under a schedule: the n-th step carries out the schedule's n-th input. -/
def runSchedule (sched : Nat → Input) (s : State) : Nat → State
  | 0 => s
  | n + 1 => stepOn (sched n) (runSchedule sched s n)

/-- Feeds inputs one after the other. -/
def runInputs (xs : List Input) (s : State) : State := xs.foldl (fun st x => stepOn x st) s

/-- A suspended RECV can be resumed (44_queue.md R241). -/
def State.resumeEnabled (s : State) : Bool := s.recvWait && !s.inq.isEmpty

/-- A pending chunk can be taken, or an ingress operation goes on (42_assembler.md R180). -/
def State.ingressEnabled (s : State) : Bool := !s.ingressTask.isEmpty || (!s.offered.isEmpty && !s.halted)

/-- Weak fairness (92_eei_decisions.md D18; notes/assumptions/15.md): a resume step, and an ingress step, enabled from some point on is taken. -/
def WeaklyFair (sched : Nat → Input) (s : State) : Prop :=
  (∀ n, (∀ m, n ≤ m → (runSchedule sched s m).resumeEnabled = true) → ∃ m, n ≤ m ∧ sched m = .advance .appRecv) ∧
  (∀ n, (∀ m, n ≤ m → (runSchedule sched s m).ingressEnabled = true) → ∃ m, n ≤ m ∧ sched m = .advance .ingress)

end Sys2Proof.Machine
end

