-- ==== Sys2Proof/Certificates/Slice0/Obligations.lean ====
section
/-! DEFINITION. The statements for the provers. A statement whose docstring says "the model's choice" rests on the named log
entry; every other one on the numbered rule it names. -/

open Sys2Proof Sys2Proof.Machine

/- Encodings -/

/-- Encoding then decoding gives every well-formed operation back (30_encoding.md R90, R94, R101). -/
def Obligations.DecodeOfEncodeIsTheInstruction : Prop :=
  ∀ i : Instr, i.wf = true → decode (encode i) = .ok i

/-- Whatever the decoder accepts is well formed and has that one encoding: no encoding falls to a neighbour. -/
def Obligations.DecodeIsInjectiveAndWellFormed : Prop :=
  ∀ (c : Code) (i : Instr), decode c = .ok i → i.wf = true ∧ encode i = c

/-- Words written out from 30_encoding.md R93, R94, R101 and 95_test_vectors.md section 5 (operands zero: the model's choice, log
entry 10). -/
def Obligations.TableWordsDecode : Prop :=
  decodeTableWord 8 0x0 = some .reset ∧
  decodeTableWord 8 0x1 = some (.crc8 []) ∧
  decodeTableWord 8 0x7 = some .slice ∧
  decodeTableWord 8 0xA = some (.send 0x00#8 []) ∧
  decodeTableWord 8 0xC = some .recv ∧
  decodeTableWord 8 0xD = some .readerr ∧
  decodeTableWord 8 0xE = some .reservedE ∧
  decodeTableWord 144 0x0119FFFFFFFFFFFFFFFFFFFFFFFFFFFFFF3F = some .rxRetx ∧
  decodeTableWord 144 0x0115FFFFFFFFFFFFFFFFFFFFFFFFFFFFFF27 = some .rxAck

/-- 30_encoding.md R102: reserved codes, internal operations issued by an agent, RXCHUNK from anyone but TRANSPORT, and operands
of the wrong types are refused with 0x5 and change nothing. (A wrong number of operands: OperationsGoByTheirIssuer.) -/
def Obligations.IllegalCommandsAreRefused : Prop :=
  (∀ s : State, exec .reservedE s = .next s.refusedWith5 ∧ exec .reservedF s = .next s.refusedWith5) ∧
  (∀ (i : Instr) (s : State) (a : Agent), isInternal i = true → s.issuer = .agent a → exec i s = .next s.refusedWith5) ∧
  (∀ (bs : Bytes) (s : State), s.issuer ≠ .agent .transport → exec (.rxchunk bs) s = .next s.refusedWith5) ∧
  (∀ (s : State) (who : Issuer) (op : BitVec 4) (operands : List Operand) (e : DecodeError) (rest : List Input),
    s.inputs = .issue who (.cmd op operands) :: rest → operands.length = operandCount op →
    decode (.cmd op operands) = .error e →
    step s = .next { s with inputs := rest, issuer := who, returns := s.returns ++ [(who, .status 0x05#8)] })

/- One step -/

/-- A step on an issued command that decodes is exec of the decoded operation, the input used up and its issuer recorded (the
input list is the model's choice, log entry 3). -/
def Obligations.StepRunsTheDecodedInstruction : Prop :=
  ∀ (s : State) (who : Issuer) (c : Code) (rest : List Input) (i : Instr),
    s.inputs = .issue who c :: rest → decode c = .ok i →
    step s = exec i { s with inputs := rest, issuer := who }

/-- A step on an advance input is that agent's, or the block's own TXFRAME's, next step; with no input left nothing changes (70_reset_and_hazards.md R303;
the input list is the model's choice, log entry 3). -/
def Obligations.StepAdvancesTheAgent : Prop :=
  (∀ (s : State) (rest : List Input), s.inputs = .advance .ingress :: rest →
    step s = .next (advanceIngress { s with inputs := rest })) ∧
  (∀ (s : State) (rest : List Input), s.inputs = .advance .appSend :: rest →
    step s = .next (advanceSend { s with inputs := rest })) ∧
  (∀ (s : State) (rest : List Input), s.inputs = .advance .appRecv :: rest →
    step s = .next (recvResume { s with inputs := rest })) ∧
  (∀ (s : State) (rest : List Input), s.inputs = .advanceUnit :: rest →
    step s = .next (advanceUnit { s with inputs := rest })) ∧
  (∀ (s : State) (rest : List Input), s.inputs = .advance .transport :: rest → step s = .next { s with inputs := rest }) ∧
  (∀ s : State, s.inputs = [] → step s = .next s)

/-- A placed table word is what the next step runs, by the issuer R101 allows; the rest of the state is untouched (the model's
choice, log entries 10 and 12). -/
def Obligations.PlacedTableWordRunsNext : Prop :=
  ∀ (s : State) (nbits w : Nat) (i : Instr), decodeTableWord nbits w = some i →
    step (s.withFetchWord nbits w) = exec i { s with issuer := properIssuer i }

/-- No step of the block stops: every operation and every input has a next state (60_exceptions.md R265, R269). -/
def Obligations.EveryStepHasANextState : Prop :=
  (∀ (i : Instr) (s : State), ∃ t, exec i s = .next t) ∧ (∀ s : State, ∃ t, step s = .next t)

/- Reset, the parameters and the invariant -/

/-- 10_state.md R43: the reset values, and CONFIG the table of 00_scope.md R7. -/
def Obligations.ResetStateHasTheResetValues : Prop :=
  State.reset.cache = none ∧ State.reset.rxbuf = [] ∧ State.reset.inq = [] ∧ State.reset.err = 0x00#8 ∧
  State.reset.recvWait = false ∧ State.reset.txlog = [] ∧
  CONFIG = { frameLen := 18, payloadLen := 16, crcInLen := 17, lenMin := 1, lenMax := 16, pad := 0xFF#8, poly := 0x07#8,
             crcInit := 0x00#8, ackSentinel := 0x15#8, retxSentinel := 0x19#8 }

/-- The reset state meets the invariant. -/
def Obligations.ResetStateMeetsTheInvariant : Prop := State.reset.Inv

/-- Every step keeps the invariant, from every state that meets it, under every parameter. -/
def Obligations.StepKeepsTheInvariant : Prop :=
  ∀ s t : State, s.Inv → step s = .next t → t.Inv

/-- No step changes the parameters (10_state.md R41; the model's choice to carry them in State, log entry 5). -/
def Obligations.StepKeepsTheParameters : Prop :=
  ∀ s t : State, step s = .next t → t.params = s.params

/-- 70_reset_and_hazards.md R300: RESET gives every element its reset value and touches nothing else; refused while a RECV is
suspended. -/
def Obligations.ResetClearsTheConnection : Prop :=
  (∀ s : State, s.appTurn → s.recvWait = false → s.params.atomicity = .event →
    exec .reset s =
      .next { s with cache := none, rxbuf := [], inq := [], err := 0x00#8, recvWait := false, txlog := [] }) ∧
  (∀ s : State, s.issuer = .agent .appSend → s.recvWait = true → exec .reset s = .next s.refusedWith5)

/-- 10_state.md R36: no operation and no step but RESET's clears a bit of ERR, and bits 7:4 are never set. Of a RESET in progress
under ATOMICITY = primitive only the assignment to ERR is excepted. -/
def Obligations.ErrBitsAreSticky : Prop :=
  (∀ (i : Instr) (s t : State), i ≠ .reset → exec i s = .next t →
    t.err &&& s.err = s.err ∧ t.err &&& 0xF0#8 = s.err &&& 0xF0#8) ∧
  (∀ s t : State, s.inputs.head? ≠ some resetInput → s.ingressTask.head? ≠ some (.clear .err) →
    s.sendTask.head? ≠ some (.clear .err) → s.unitTask.head? ≠ some (.clear .err) → step s = .next t →
    t.err &&& s.err = s.err ∧ t.err &&& 0xF0#8 = s.err &&& 0xF0#8)

/-- 10_state.md R37, 42_assembler.md R185: ingress is halted by ERR bits 1, 2 and 3; INGRESS then has no step; and a step that is
not RESET's, with only writes of the others in progress, keeps the halt, ERR, RXBUF and what INGRESS had in progress, takes no
chunk off the inbound wire, dispatches nothing and pushes nothing. -/
def Obligations.HaltedIngressHasNoStep : Prop :=
  (∀ s : State, s.halted = (s.err.getLsbD 1 || s.err.getLsbD 2 || s.err.getLsbD 3)) ∧
  (∀ s : State, s.halted = true → advanceIngress s = s) ∧
  (∀ s t : State, s.halted = true → (∀ p ∈ s.sendTask ++ s.unitTask, p.isWrite = true) → step s = .next t →
    s.inputs.head? = some resetInput ∨
    (t.halted = true ∧ t.err = s.err ∧ t.rxbuf = s.rxbuf ∧ t.raised = s.raised ∧ t.ingressTask = s.ingressTask ∧
      (t.inq = s.inq ∨ t.inq = s.inq.tail) ∧ (t.offered = s.offered ∨ ∃ bs, t.offered = s.offered ++ [bs])))

/- Checksum Engine -/

/-- 40_checksum.md R130, R131: the result and the whole effect of CRC8, its loop and its round. -/
def Obligations.Crc8ReturnsTheChecksum : Prop :=
  (∀ (bs : Bytes) (s : State), s.appTurn →
    exec (.crc8 bs) s = .next { s with returns := s.returns ++ [(s.issuer, .byte (crc8 bs))] }) ∧
  crc8 [] = 0x00#8 ∧
  (∀ (bs : Bytes) (b : Byte), crc8 (bs ++ [b]) =
    crcRound (crcRound (crcRound (crcRound (crcRound (crcRound (crcRound (crcRound (crc8 bs ^^^ b))))))))) ∧
  (∀ a : Byte, crcRound a = if a.getLsbD 7 = true then (a <<< 1) ^^^ 0x07#8 else a <<< 1)

/-- 40_checksum.md R133(c): CRC8 is linear over XOR for inputs of equal length. -/
def Obligations.CrcIsLinearOverXor : Prop :=
  ∀ xs ys : Bytes, xs.length = ys.length → crc8 (xorBytes xs ys) = crc8 xs ^^^ crc8 ys

/-- 40_checksum.md R133(d): a sequence followed by its own CRC8 has CRC8 zero. -/
def Obligations.CrcSelfCheckIsZero : Prop := ∀ bs : Bytes, crc8 (bs ++ [crc8 bs]) = 0x00#8

/-- 40_checksum.md R133(b): the per-byte step through the table of single bytes, with rows of 95_test_vectors.md section 2. -/
def Obligations.CrcGoesByThePerByteTable : Prop :=
  (∀ (bs : Bytes) (b : Byte), crc8 (bs ++ [b]) = crc8 [crc8 bs ^^^ b]) ∧
  (List.range 16).map (fun k => crc8 [BitVec.ofNat 8 k]) =
    [0x00#8, 0x07#8, 0x0E#8, 0x09#8, 0x1C#8, 0x1B#8, 0x12#8, 0x15#8,
     0x38#8, 0x3F#8, 0x36#8, 0x31#8, 0x24#8, 0x23#8, 0x2A#8, 0x2D#8] ∧
  (List.range 16).map (fun k => crc8 [BitVec.ofNat 8 (0xF0 + k)]) =
    [0xDE#8, 0xD9#8, 0xD0#8, 0xD7#8, 0xC2#8, 0xC5#8, 0xCC#8, 0xCB#8,
     0xE6#8, 0xE1#8, 0xE8#8, 0xEF#8, 0xFA#8, 0xFD#8, 0xF4#8, 0xF3#8]

/-- 40_checksum.md R134: every 1-bit and every 3-bit error of a valid frame is detected. -/
def Obligations.OneAndThreeBitErrorsAreDetected : Prop :=
  ∀ f : Bytes, isFrame18 f = true → validate (frameOf f) = true →
    (∀ i, i < 144 → validate (frameOf (flipBit i f)) = false) ∧
    (∀ i j k, i < j → j < k → k < 144 → validate (frameOf (flipBit k (flipBit j (flipBit i f)))) = false)

/-- 40_checksum.md R134: a 2-bit error of a valid frame is undetected exactly when the two positions are 127 apart. -/
def Obligations.TwoBitErrorsEscapeOnlyAtDistance127 : Prop :=
  ∀ f : Bytes, isFrame18 f = true → validate (frameOf f) = true →
    ∀ i j, i < j → j < 144 → (validate (frameOf (flipBit j (flipBit i f))) = true ↔ j = i + 127)

/- Frame Codec -/

/-- 41_codec.md R150, R151: the frame ENCODE returns, and when it refuses. -/
def Obligations.EncodeReturnsTheFrame : Prop :=
  (∀ (len : Byte) (p : Bytes) (s : State), s.appTurn → 1 ≤ len.toNat → len.toNat ≤ 16 → p.length ≤ len.toNat →
    exec (.encode len p) s =
      .next { s with returns := s.returns ++ [(s.issuer, .frame18
        ([len] ++ (p ++ rep (16 - p.length) 0xFF#8) ++ [crc8 ([len] ++ (p ++ rep (16 - p.length) 0xFF#8))]))] }) ∧
  (∀ (len : Byte) (p : Bytes) (s : State),
    len.toNat < 1 ∨ 16 < len.toNat ∨ 16 < p.length ∨ len.toNat < p.length →
    exec (.encode len p) s = .next s.refusedWith5)

/-- 41_codec.md R152: the encoder laws of an admitted pair: length, padding, round trip, validity. -/
def Obligations.EncodedFramesMeetTheEncoderLaws : Prop :=
  ∀ (len : Byte) (p : Bytes), encodeAdmits len p = true →
    (buildFrame len p).length = 18 ∧
    (buildFrame len p).getD 0 0x00#8 = len ∧
    (∀ k, p.length + 1 ≤ k → k < 17 → (buildFrame len p).getD k 0x00#8 = 0xFF#8) ∧
    frameOf (buildFrame len p) =
      { length := len, payload := p ++ rep (16 - p.length) 0xFF#8, crc := (buildFrame len p).getD 17 0x00#8 } ∧
    validate (frameOf (buildFrame len p)) = true

/-- 41_codec.md R153, R154: DECODE extracts the fields unchanged, and refuses anything but 18 bytes. -/
def Obligations.DecodeExtractsTheFields : Prop :=
  (∀ (bs : Bytes) (s : State), s.appTurn → bs.length = 18 →
    exec (.decode bs) s =
      .next { s with returns := s.returns ++ [(s.issuer, .frame
        { length := bs.getD 0 0x00#8, payload := (bs.drop 1).take 16, crc := bs.getD 17 0x00#8 })] }) ∧
  (∀ (bs : Bytes) (s : State), bs.length ≠ 18 → exec (.decode bs) s = .next s.refusedWith5)

/-- 41_codec.md R155: VALIDATE recomputes the CRC over length and payload and checks nothing else. -/
def Obligations.ValidateComparesTheCrc : Prop :=
  ∀ (fr : Frame) (s : State), s.appTurn → fr.wf = true →
    exec (.validate fr) s =
      .next { s with returns := s.returns ++ [(s.issuer, .bool (decide (crc8 ([fr.length] ++ fr.payload) = fr.crc)))] }

/-- 41_codec.md R156: CLASSIFY returns the first class that fits, in the order CORRUPT, RETX, ACK, DATA. -/
def Obligations.ClassifyFollowsThePriority : Prop :=
  ∀ (fr : Frame) (s : State), s.appTurn → fr.wf = true →
    exec (.classify fr) s =
      .next { s with returns := s.returns ++ [(s.issuer, .frameClass
        (if crc8 ([fr.length] ++ fr.payload) ≠ fr.crc then .corrupt
         else if [fr.length] ++ fr.payload ++ [fr.crc] = retxFrame then .retx
         else if [fr.length] ++ fr.payload ++ [fr.crc] = ackFrame then .ack
         else .data))] }

/-- 30_encoding.md R93: the bytes of the two control frames, which ENCODE returns for the sentinels. -/
def Obligations.ControlFramesHaveTheirBytes : Prop :=
  ackFrame = [0x01#8, 0x15#8] ++ rep 15 0xFF#8 ++ [0x27#8] ∧
  retxFrame = [0x01#8, 0x19#8] ++ rep 15 0xFF#8 ++ [0x3F#8] ∧
  (∀ s : State, s.appTurn →
    exec (.encode 0x01#8 [0x15#8]) s = .next { s with returns := s.returns ++ [(s.issuer, .frame18 ackFrame)] } ∧
    exec (.encode 0x01#8 [0x19#8]) s = .next { s with returns := s.returns ++ [(s.issuer, .frame18 retxFrame)] })

/-- 30_encoding.md R94, R95: among CRC-valid frames a control frame is exactly length 1, its sentinel and 0xFF padding; every
other one, of any length and padding, is DATA. -/
def Obligations.ControlFramesAreExactMatches : Prop :=
  ∀ fr : Frame, fr.wf = true → validate fr = true →
    (classify fr = .retx ↔ fr.length = 0x01#8 ∧ fr.payload = 0x19#8 :: rep 15 0xFF#8) ∧
    (classify fr = .ack ↔ fr.length = 0x01#8 ∧ fr.payload = 0x15#8 :: rep 15 0xFF#8) ∧
    (classify fr = .data ↔
      ¬(fr.length = 0x01#8 ∧ (fr.payload = 0x19#8 :: rep 15 0xFF#8 ∨ fr.payload = 0x15#8 :: rep 15 0xFF#8)))

/- Stream Assembler -/

/-- 42_assembler.md R180: RXCHUNK appends and drains. A chunk beyond RXBUF_CAP is not appended, sets ERR[2] and halts; fewer
than 18 buffered bytes only wait; else the first 18 are dispatched with the rest left in RXBUF, and unless that halts ingress
the loop goes on as on an empty chunk. -/
def Obligations.RxchunkAppendsAndDrains : Prop :=
  ∀ (bs : Bytes) (s : State), s.chunkTurn → s.params.atomicity = .event →
    (∀ c, s.params.rxbufCap = some c → c < s.rxbuf.length + bs.length →
      exec (.rxchunk bs) s = .next { s with err := s.err ||| 0x04#8, raised := s.raised ++ [.capacityOverflow] }) ∧
    (fits s.params.rxbufCap (s.rxbuf.length + bs.length) = true → s.rxbuf.length + bs.length < 18 →
      exec (.rxchunk bs) s = .next { s with rxbuf := s.rxbuf ++ bs }) ∧
    (fits s.params.rxbufCap (s.rxbuf.length + bs.length) = true →
      ∀ (f rest : Bytes) (t : State), s.rxbuf ++ bs = f ++ rest → f.length = 18 →
        exec (.dispatch f) { s with rxbuf := rest, issuer := .block } = .next t →
        exec (.rxchunk bs) s =
          if t.halted = true then .next { t with issuer := s.issuer } else exec (.rxchunk []) { t with issuer := s.issuer })

/-- 20_memory.md R64, 42_assembler.md R182, R183: after any chunks that do not halt ingress, RXBUF holds exactly the bytes past
the last multiple of 18 of everything received: slices fall at every 18th byte whatever the bytes are. -/
def Obligations.SlicesFallAtEvery18thByte : Prop :=
  ∀ (chunks : List Bytes) (s : State), s.halted = false → s.ingressTask = [] → s.offered = [] → s.params.atomicity = .event →
    s.rxbuf.length < 18 → (runInputs (chunks.map chunkInput) s).halted = false →
    (runInputs (chunks.map chunkInput) s).rxbuf =
      (s.rxbuf ++ chunks.flatten).drop (18 * ((s.rxbuf.length + chunks.flatten.length) / 18))

/-- 42_assembler.md R184: with RXBUF_CAP unbounded and no step between, cutting a byte sequence in two changes nothing. -/
def Obligations.ChunkBoundariesDoNotMatter : Prop :=
  ∀ (a b : Bytes) (s t : State), s.chunkTurn → s.params.atomicity = .event → s.params.rxbufCap = none →
    exec (.rxchunk a) s = .next t → t.halted = false →
    exec (.rxchunk (a ++ b)) s = exec (.rxchunk b) t

/-- 42_assembler.md R181: SLICE takes exactly the first 18 bytes. -/
def Obligations.SliceTakesTheFirst18Bytes : Prop :=
  ∀ s : State, s.unitTurn → 18 ≤ s.rxbuf.length →
    exec .slice s =
      .next { s with rxbuf := s.rxbuf.drop 18, returns := s.returns ++ [(s.issuer, .frame18 (s.rxbuf.take 18))] }

/- Retransmission Controller -/

/-- 43_controller.md R200: DISPATCH decodes and classifies the frame and takes exactly the one action of its class
(R201 to R204). -/
def Obligations.DispatchTakesTheClassAction : Prop :=
  ∀ (f : Bytes) (s : State), s.unitTurn → s.params.atomicity = .event → f.length = 18 →
    (classify (frameOf f) = .corrupt →
      exec (.dispatch f) s =
        .next (({ s with raised := s.raised ++ [.checksumMismatch] } : State).afterActionWrite retxFrame s.answer)) ∧
    (classify (frameOf f) = .retx → s.cache = none →
      exec (.dispatch f) s = .next { s with err := s.err ||| 0x01#8, raised := s.raised ++ [.emptyCacheOnRetx] }) ∧
    (∀ c, classify (frameOf f) = .retx → s.cache = some c →
      exec (.dispatch f) s = .next (s.afterActionWrite c s.answer)) ∧
    (classify (frameOf f) = .ack → exec (.dispatch f) s = .next s) ∧
    (classify (frameOf f) = .data → fits s.params.inqCap (s.inq.length + 1) = true →
      exec (.dispatch f) s =
        .next (({ s with inq := s.inq ++ [frameOf f] } : State).afterActionWrite ackFrame s.answer)) ∧
    (classify (frameOf f) = .data → fits s.params.inqCap (s.inq.length + 1) = false →
      exec (.dispatch f) s = .next { s with err := s.err ||| 0x08#8, raised := s.raised ++ [.capacityOverflow] })

/-- 43_controller.md R201, R210: a corrupt frame is answered with one RETX_FRAME and discarded; a failed write sets ERR[1]. -/
def Obligations.CorruptFrameIsAnsweredWithRetx : Prop :=
  ∀ (fr : Frame) (s : State), s.unitTurn → s.params.atomicity = .event → fr.wf = true → classify fr = .corrupt →
    exec (.rxCorrupt fr) s =
      .next (({ s with raised := s.raised ++ [.checksumMismatch] } : State).afterActionWrite retxFrame s.answer)

/-- 43_controller.md R202: a valid RETX retransmits the cached bytes as they are; with an empty cache nothing is transmitted
and ERR[0] is set. -/
def Obligations.RetxRetransmitsTheCache : Prop :=
  ∀ s : State, s.unitTurn → s.params.atomicity = .event →
    (s.cache = none →
      exec .rxRetx s = .next { s with err := s.err ||| 0x01#8, raised := s.raised ++ [.emptyCacheOnRetx] }) ∧
    (∀ c, s.cache = some c → exec .rxRetx s = .next (s.afterActionWrite c s.answer))

/-- 43_controller.md R203: an ACK changes nothing. -/
def Obligations.AckChangesNothing : Prop :=
  ∀ s : State, s.unitTurn → exec .rxAck s = .next s

/-- 43_controller.md R204: a data frame is queued whole, then ACK_FRAME is written; beyond INQ_CAP it is not queued, no ACK is
written and ERR[3] is set. -/
def Obligations.DataFrameIsQueuedThenAcknowledged : Prop :=
  ∀ (fr : Frame) (s : State), s.unitTurn → s.params.atomicity = .event → fr.wf = true → classify fr = .data →
    (fits s.params.inqCap (s.inq.length + 1) = true →
      exec (.rxData fr) s = .next (({ s with inq := s.inq ++ [fr] } : State).afterActionWrite ackFrame s.answer)) ∧
    (∀ c, s.params.inqCap = some c → c < s.inq.length + 1 →
      exec (.rxData fr) s = .next { s with err := s.err ||| 0x08#8, raised := s.raised ++ [.capacityOverflow] })

/-- 43_controller.md R205: one write request, logged with its result; the cache is overwritten only on ok. -/
def Obligations.TxframeWritesThenCaches : Prop :=
  ∀ (f : Bytes) (s : State), s.writerTurn → s.params.atomicity = .event → f.length = 18 →
    (s.answer = .ok →
      exec (.txframe f) s =
        .next { s with cache := some f, txlog := s.txlog ++ [(f, .ok)], wireOut := s.wireOut ++ f,
                       answers := s.answers.tail, draws := s.draws + 1,
                       returns := s.returns ++ [(s.issuer, .written .ok)] }) ∧
    (∀ n, s.answer = .fail n →
      exec (.txframe f) s =
        .next { s with txlog := s.txlog ++ [(f, .fail)], wireOut := s.wireOut ++ f.take n,
                       answers := s.answers.tail, draws := s.draws + 1,
                       returns := s.returns ++ [(s.issuer, .written .fail)] })

/-- 43_controller.md R206: SEND transmits the encoded frame and returns 0x0 or 0x3, also while ingress is halted; it returns
0x5 and does nothing when ENCODE refuses. -/
def Obligations.SendTransmitsAndReturnsAStatus : Prop :=
  ∀ (len : Byte) (p : Bytes) (s : State), s.appTurn → s.params.atomicity = .event →
    (encodeAdmits len p = true → s.answer = .ok →
      exec (.send len p) s =
        .next { s.afterWrite (buildFrame len p) .ok with returns := s.returns ++ [(s.issuer, .status 0x00#8)] }) ∧
    (∀ n, encodeAdmits len p = true → s.answer = .fail n →
      exec (.send len p) s =
        .next { s.afterWrite (buildFrame len p) (.fail n) with returns := s.returns ++ [(s.issuer, .status 0x03#8)] }) ∧
    (encodeAdmits len p = false → exec (.send len p) s = .next s.refusedWith5)

/-- 43_controller.md R207: what a dispatched frame writes, caches and raises depends on its bytes, the cache and the transport
alone, whatever else the two states hold. -/
def Obligations.DispatchDependsOnFrameAndCacheOnly : Prop :=
  ∀ (f : Bytes) (s₁ s₂ t₁ t₂ : State), s₁.unitTurn → s₂.unitTurn → isFrame18 f = true →
    s₁.params.atomicity = .event → s₂.params.atomicity = .event →
    s₁.cache = s₂.cache → s₁.answer = s₂.answer → s₁.params.inqCap = none → s₂.params.inqCap = none →
    exec (.dispatch f) s₁ = .next t₁ → exec (.dispatch f) s₂ = .next t₂ →
    t₁.cache = t₂.cache ∧
    (∃ w, t₁.txlog = s₁.txlog ++ w ∧ t₂.txlog = s₂.txlog ++ w) ∧
    (∃ c, t₁.raised = s₁.raised ++ c ∧ t₂.raised = s₂.raised ++ c) ∧
    (∃ q, t₁.inq = s₁.inq ++ q ∧ t₂.inq = s₂.inq ++ q)

/-- 10_state.md R33, R39, 20_memory.md R75, 43_controller.md R208: every operation but RESET only appends to TXLOG, and leaves
in CACHE the last frame it wrote with ok, or the old one if it wrote none. -/
def Obligations.CacheFollowsTheWrites : Prop :=
  ∀ (i : Instr) (s t : State), i ≠ .reset → s.params.atomicity = .event → exec i s = .next t →
    ∃ w, t.txlog = s.txlog ++ w ∧ t.cache = (lastOk w).or s.cache

/-- 43_controller.md R210: a failed write of a frame action sets ERR[1], halts ingress and leaves the bytes behind the frame in
RXBUF; the cache is kept. -/
def Obligations.FailedActionWriteHaltsIngress : Prop :=
  ∀ (bs f rest : Bytes) (s : State) (n : Nat), s.chunkTurn → s.params.atomicity = .event →
    fits s.params.rxbufCap (s.rxbuf.length + bs.length) = true → s.rxbuf ++ bs = f ++ rest → f.length = 18 →
    s.answer = .fail n →
    (classify (frameOf f) = .corrupt ∨ (classify (frameOf f) = .retx ∧ s.cache ≠ none) ∨
      (classify (frameOf f) = .data ∧ fits s.params.inqCap (s.inq.length + 1) = true)) →
    ∃ t, exec (.rxchunk bs) s = .next t ∧ t.halted = true ∧ t.err = s.err ||| 0x02#8 ∧ t.rxbuf = rest ∧
      t.cache = s.cache ∧ (∃ g, t.txlog = s.txlog ++ [(g, .fail)]) ∧
      t.raised.getLast? = some .transportWriteFailure

/-- 60_exceptions.md R267: the causes one dispatched frame raises, in order: none, one, or ChecksumMismatch followed by
TransportWriteFailure; StreamDesync is never among them (R262), nor CapacityOverflow when INQ_CAP is unbounded (R266). -/
def Obligations.DispatchRaisesTheseCausesOnly : Prop :=
  ∀ (f : Bytes) (s t : State), s.unitTurn → s.params.atomicity = .event → f.length = 18 → exec (.dispatch f) s = .next t →
    ∃ w, t.raised = s.raised ++ w ∧
      (w = [] ∨ w = [.checksumMismatch] ∨ w = [.checksumMismatch, .transportWriteFailure] ∨ w = [.transportWriteFailure] ∨
        w = [.emptyCacheOnRetx] ∨ w = [.capacityOverflow]) ∧
      (s.params.inqCap = none → w ≠ [.capacityOverflow]) ∧
      (w ≠ [] ∧ w ≠ [.checksumMismatch] ∧ w ≠ [.emptyCacheOnRetx] → t.halted = true)

/- Inbound Queue -/

/-- 44_queue.md R240: PUSH appends one entry; beyond INQ_CAP it appends nothing, sets ERR[3] and halts ingress. -/
def Obligations.PushAppendsToTheQueue : Prop :=
  ∀ (fr : Frame) (s : State), s.unitTurn → s.params.atomicity = .event → fr.wf = true → classify fr = .data →
    (fits s.params.inqCap (s.inq.length + 1) = true → exec (.push fr) s = .next { s with inq := s.inq ++ [fr] }) ∧
    (∀ c, s.params.inqCap = some c → c < s.inq.length + 1 →
      exec (.push fr) s = .next { s with err := s.err ||| 0x08#8, raised := s.raised ++ [.capacityOverflow] })

/-- 44_queue.md R241, R244: RECV returns the oldest entry or suspends; a second RECV is refused; the resume step, enabled only
with RECV_WAIT and a nonempty INQ, returns the oldest entry. -/
def Obligations.RecvReturnsTheOldestOrSuspends : Prop :=
  (∀ (s : State) (fr : Frame) (q : List Frame), s.issuer = .agent .appRecv → s.recvWait = false → s.inq = fr :: q →
    exec .recv s = .next { s with inq := q, returns := s.returns ++ [(s.issuer, .frame fr)] }) ∧
  (∀ s : State, s.issuer = .agent .appRecv → s.recvWait = false → s.inq = [] →
    exec .recv s = .next { s with recvWait := true }) ∧
  (∀ s : State, s.issuer = .agent .appRecv → s.recvWait = true → exec .recv s = .next s.refusedWith5) ∧
  (∀ (s : State) (rest : List Input) (fr : Frame) (q : List Frame), s.inputs = .advance .appRecv :: rest →
    s.recvWait = true → s.inq = fr :: q →
    step s = .next { s with inputs := rest, recvWait := false, inq := q,
                            returns := s.returns ++ [(.agent .appRecv, .frame fr)] }) ∧
  (∀ (s : State) (rest : List Input), s.inputs = .advance .appRecv :: rest → s.recvWait = false ∨ s.inq = [] →
    step s = .next { s with inputs := rest })

/-- 44_queue.md R242: entries come back by RECV in push order behind those already queued, each exactly once. -/
def Obligations.QueueIsFirstInFirstOut : Prop :=
  ∀ (frs : List Frame) (s : State), (∀ fr ∈ frs, isDataFrame fr = true) → s.halted = false → s.ingressTask = [] →
    s.params.atomicity = .event → fits s.params.inqCap (s.inq.length + frs.length) = true → s.recvWait = false →
    (runInputs (frs.map pushInput ++ List.replicate (s.inq.length + frs.length) recvInput) s).returns =
      s.returns ++ (s.inq ++ frs).map (fun fr => (.agent .appRecv, .frame fr)) ∧
    (runInputs (frs.map pushInput ++ List.replicate (s.inq.length + frs.length) recvInput) s).inq = []

/-- 44_queue.md R243, 92_eei_decisions.md D18: under a weakly fair schedule a suspended RECV that finds an entry is resumed and
returns the entry that was then the oldest (fairness is a premise on the schedule, log entry 15). -/
def Obligations.SuspendedRecvIsEventuallyServed : Prop :=
  ∀ (sched : Nat → Input) (s : State) (n : Nat) (fr : Frame) (q : List Frame), WeaklyFair sched s →
    (runSchedule sched s n).recvWait = true → (runSchedule sched s n).inq = fr :: q →
    (∀ p ∈ (runSchedule sched s n).tasks, p ≠ .clear .inq) →
    ∃ m, n ≤ m ∧
      (runSchedule sched s (m + 1)).returns = (runSchedule sched s m).returns ++ [(.agent .appRecv, .frame fr)] ∧
      (runSchedule sched s (m + 1)).recvWait = false

/-- 92_eei_decisions.md D18: under a weakly fair schedule a pending chunk, while ingress is never halted, is taken off the
inbound wire by INGRESS, as the oldest one (that chunks wait in a queue is the model's choice, log entry 7). -/
def Obligations.PendingChunkIsEventuallyTaken : Prop :=
  ∀ (sched : Nat → Input) (s : State) (n : Nat) (bs : Bytes) (rest : List Bytes), WeaklyFair sched s →
    (runSchedule sched s n).params.atomicity = .event → (runSchedule sched s n).ingressTask = [] →
    (runSchedule sched s n).offered = bs :: rest → (∀ m, n ≤ m → (runSchedule sched s m).halted = false) →
    ∃ m more, n ≤ m ∧ (runSchedule sched s m).offered = bs :: more ∧ (runSchedule sched s (m + 1)).offered = more

/- Status and whole-machine rules -/

/-- 60_exceptions.md R275: READERR returns ERR and does not clear it, also while ingress is halted. -/
def Obligations.ReaderrReturnsErr : Prop :=
  ∀ s : State, s.appTurn → exec .readerr s = .next { s with returns := s.returns ++ [(s.issuer, .byte s.err)] }

/-- 20_memory.md R68: the pure operations and READERR have no side effect: at most one value is returned. -/
def Obligations.PureOperationsHaveNoSideEffect : Prop :=
  ∀ (i : Instr) (s t : State), isPure i = true → exec i s = .next t →
    t = s ∨ ∃ r, t = { s with returns := s.returns ++ [(s.issuer, r)] }

/-- 60_exceptions.md R265: an operation that returns 0x5 to its issuer has changed nothing else. -/
def Obligations.RefusedOperationsChangeNothing : Prop :=
  ∀ (i : Instr) (s t : State), exec i s = .next t → t.returns = s.returns ++ [(s.issuer, .status 0x05#8)] →
    t = s.refusedWith5

/-- 70_reset_and_hazards.md R312: once RETX_FRAME is cached, n valid RETX frames are each answered with RETX_FRAME, and CACHE,
INQ and ERR stay: no counter or timer breaks the loop. -/
def Obligations.RetxLivelockNeverEnds : Prop :=
  ∀ (n : Nat) (s : State) (as : List Answer), s.halted = false → s.ingressTask = [] → s.offered = [] →
    s.params.atomicity = .event → s.params.rxbufCap = none → s.rxbuf = [] → s.cache = some retxFrame →
    s.answers = List.replicate n .ok ++ as →
    (runInputs (List.replicate n (chunkInput retxFrame)) s).txlog = s.txlog ++ List.replicate n (retxFrame, .ok) ∧
    (runInputs (List.replicate n (chunkInput retxFrame)) s).cache = some retxFrame ∧
    (runInputs (List.replicate n (chunkInput retxFrame)) s).inq = s.inq ∧
    (runInputs (List.replicate n (chunkInput retxFrame)) s).err = s.err

/-- End to end (41_codec.md R150, 42_assembler.md R180, 43_controller.md R204, 44_queue.md R241): a frame the peer encoded,
unless it is a control frame, is acknowledged and the next RECV returns its length and padded payload. -/
def Obligations.EncodedDataIsDeliveredAndAcknowledged : Prop :=
  ∀ (len : Byte) (p : Bytes) (s : State), encodeAdmits len p = true →
    buildFrame len p ≠ ackFrame → buildFrame len p ≠ retxFrame →
    s.halted = false → s.ingressTask = [] → s.offered = [] → s.params = defaultParams → s.rxbuf = [] → s.inq = [] →
    s.recvWait = false → s.answer = .ok →
    (runInputs [chunkInput (buildFrame len p), recvInput] s).returns =
      s.returns ++ [(.agent .appRecv, .frame { length := len, payload := p ++ rep (16 - p.length) 0xFF#8,
                                               crc := crc8 (len :: (p ++ rep (16 - p.length) 0xFF#8)) })] ∧
    (runInputs [chunkInput (buildFrame len p), recvInput] s).txlog = s.txlog ++ [(ackFrame, .ok)] ∧
    (runInputs [chunkInput (buildFrame len p), recvInput] s).inq = []

/-- 95_test_vectors.md S7 (43_controller.md R202, R205, R206): a SEND followed by a valid RETX puts the same 18 bytes on the
wire twice; after a data frame in between, the RETX retransmits ACK_FRAME instead (70_reset_and_hazards.md R311). -/
def Obligations.RetransmissionIsByteForByte : Prop :=
  ∀ (len : Byte) (p : Bytes) (s : State) (as : List Answer), encodeAdmits len p = true →
    s.halted = false → s.ingressTask = [] → s.sendTask = [] → s.offered = [] → s.params = defaultParams → s.rxbuf = [] →
    (s.answers = .ok :: .ok :: as →
      (runInputs [sendInput len p, chunkInput retxFrame] s).txlog =
        s.txlog ++ [(buildFrame len p, .ok), (buildFrame len p, .ok)]) ∧
    (∀ f, isFrame18 f = true → classify (frameOf f) = .data → s.answers = .ok :: .ok :: .ok :: as →
      (runInputs [sendInput len p, chunkInput f, chunkInput retxFrame] s).txlog =
        s.txlog ++ [(buildFrame len p, .ok), (ackFrame, .ok), (ackFrame, .ok)])

/- ATOMICITY = primitive -/

/-- 20_memory.md R67: an operation run primitive by primitive with no other agent between ends in the state the one-step
operation gives (the split into primitives is the model's choice, log entry 8). -/
def Obligations.PrimitivesWithoutInterleavingMatchTheEvent : Prop :=
  ∀ (i : Instr) (s t u : State), s.params.atomicity = .primitive → s.tasks = [] →
    exec i s = .next t → exec i (s.withAtomicity .event) = .next u →
    ∃ n m k, advanceUnitN k (advanceSendN m (advanceIngressN n t)) = u.withAtomicity .primitive

/-- 20_memory.md R67: under ATOMICITY = primitive the operations of more than one primitive begin without touching any state
element (the split into primitives is the model's choice, log entry 8). -/
def Obligations.PrimitiveOperationsBeginInTheirTask : Prop :=
  ∀ s : State, s.params.atomicity = .primitive →
    (s.appTurn → s.recvWait = false →
      exec .reset s = .next { s with sendTask := [.clear .cache, .clear .rxbuf, .clear .inq, .clear .err, .clear .txlog] }) ∧
    (∀ len p, s.appTurn → encodeAdmits len p = true →
      exec (.send len p) s = .next { s with sendTask := [.transmit (buildFrame len p) .send] }) ∧
    (∀ bs, s.chunkTurn → exec (.rxchunk bs) s = .next { s with ingressTask := [.rxTest bs] }) ∧
    (∀ f, s.unitTurn → f.length = 18 → exec (.dispatch f) s = .next { s with ingressTask := [.dispatch f] }) ∧
    (∀ f, s.writerTurn → f.length = 18 → exec (.txframe f) s = .next { s with unitTask := [.transmit f .txframe] }) ∧
    (∀ fr, s.unitTurn → fr.wf = true → classify fr = .corrupt →
      exec (.rxCorrupt fr) s =
        .next { s with ingressTask := [.raise .checksumMismatch none, .transmit retxFrame .action] }) ∧
    (s.unitTurn → exec .rxRetx s = .next { s with ingressTask := [.cacheRead] }) ∧
    (∀ fr, s.unitTurn → fr.wf = true → classify fr = .data →
      exec (.rxData fr) s = .next { s with ingressTask := [.pushTest fr, .transmit ackFrame .action] } ∧
      exec (.push fr) s = .next { s with ingressTask := [.pushTest fr] })

/-- 20_memory.md R71, 42_assembler.md R180, 44_queue.md R240: a data frame's capacity test, its PUSH or overflow, and the write
of its ACK are steps in that order, and so are any write (INGRESS's, SEND's or the block's own) and its cache update; in between
the intermediate state stands. The split into primitives is the model's choice, log entry 8. -/
def Obligations.PrimitivesKeepTheOrderOfEffects : Prop :=
  (∀ (s : State) (f : Bytes) (rest : List Prim), s.halted = false → s.ingressTask = .dispatch f :: rest →
    classify (frameOf f) = .data →
    advanceIngress s = { s with ingressTask := .pushTest (frameOf f) :: .transmit ackFrame .action :: rest }) ∧
  (∀ (s : State) (fr : Frame) (rest : List Prim), s.halted = false → s.ingressTask = .pushTest fr :: rest →
    advanceIngress s =
      if fits s.params.inqCap (s.inq.length + 1) = true then { s with ingressTask := .qPush fr :: rest }
      else { s with ingressTask := .raise .capacityOverflow (some .inqOverflow) :: rest }) ∧
  (∀ (s : State) (fr : Frame) (rest : List Prim), s.halted = false → s.ingressTask = .qPush fr :: rest →
    advanceIngress s = { s with inq := s.inq ++ [fr], ingressTask := rest }) ∧
  (∀ (s : State) (rest : List Prim), s.halted = false →
    s.ingressTask = .raise .capacityOverflow (some .inqOverflow) :: rest →
    advanceIngress s =
      { s with err := s.err ||| 0x08#8, raised := s.raised ++ [.capacityOverflow], ingressTask := [] }) ∧
  (∀ (s : State) (f : Bytes) (c : Caller) (rest : List Prim), s.halted = false → s.ingressTask = .transmit f c :: rest →
    s.answer = .ok → advanceIngress s = { s.transmit f with ingressTask := .cacheWrite f c :: rest }) ∧
  (∀ (s : State) (f : Bytes) (rest : List Prim), s.halted = false → s.ingressTask = .cacheWrite f .action :: rest →
    advanceIngress s = { s with cache := some f, ingressTask := rest }) ∧
  (∀ (s : State) (f : Bytes) (rest : List Prim), s.sendTask = .transmit f .send :: rest → s.answer = .ok →
    advanceSend s = { s.transmit f with sendTask := .cacheWrite f .send :: rest }) ∧
  (∀ (s : State) (f : Bytes) (rest : List Prim), s.sendTask = .cacheWrite f .send :: rest →
    advanceSend s =
      { s with cache := some f, sendTask := rest, returns := s.returns ++ [(.agent .appSend, .status 0x00#8)] }) ∧
  (∀ (s : State) (f : Bytes) (rest : List Prim), s.unitTask = .transmit f .txframe :: rest → s.answer = .ok →
    advanceUnit s = { s.transmit f with unitTask := .cacheWrite f .txframe :: rest }) ∧
  (∀ (s : State) (f : Bytes) (rest : List Prim), s.unitTask = .cacheWrite f .txframe :: rest →
    advanceUnit s = { s with cache := some f, unitTask := rest, returns := s.returns ++ [(.block, .written .ok)] })

/-- 70_reset_and_hazards.md R318: under ATOMICITY = primitive every data frame has a run, its one chunk taken and then RECV, that
returns it while its ACK is still to be written; under ATOMICITY = event there is none: in every run from reset without RESET
and without commands of the block's own, at most as many frames have been returned to APP_RECV as ACK_FRAMEs written. (The
split into primitives is the model's choice, log entry 8.) -/
def Obligations.RecvMayOvertakeTheAck : Prop :=
  (∀ f : Bytes, isFrame18 f = true → classify (frameOf f) = .data →
    ∃ (n : Nat) (t : State) (rest : List Prim),
      runInputs (chunkInput f :: (List.replicate n (.advance .ingress) ++ [recvInput]))
        (State.reset.withAtomicity .primitive) = t ∧
      t.received = [frameOf f] ∧ t.txlog = [] ∧ t.ingressTask = .transmit ackFrame .action :: rest) ∧
  (∀ (xs : List Input) (ps : Params) (as : List Answer), ps.atomicity = .event → (∀ x ∈ xs, isPlainInput x = true) →
    (runInputs xs { State.reset with params := ps, answers := as }).received.length ≤
      (runInputs xs { State.reset with params := ps, answers := as }).ackWrites)

/- The model's own choices -/

/-- The model's choice (log entries 4, 9 and 16): an operation outside its constraints (SLICE with fewer than 18 bytes buffered,
PUSH of a frame that is not DATA, a frame action on another class) or issued by another than its own agent, a wire frame handed
over by an agent (4, 9), and a command with a wrong number of operands or a wire frame not of 18 bytes (16) are refused with
0x5; the pure operations return the same to one of the block's units as to APP_SEND (4). -/
def Obligations.OperationsGoByTheirIssuer : Prop :=
  (∀ s : State, s.rxbuf.length < 18 → exec .slice s = .next s.refusedWith5) ∧
  (∀ (fr : Frame) (s : State), classify fr ≠ .data →
    exec (.push fr) s = .next s.refusedWith5 ∧ exec (.rxData fr) s = .next s.refusedWith5) ∧
  (∀ (fr : Frame) (s : State), classify fr ≠ .corrupt → exec (.rxCorrupt fr) s = .next s.refusedWith5) ∧
  (∀ (i : Instr) (s : State), isPure i = true →
    s.issuer = .agent .appRecv ∨ s.issuer = .agent .ingress ∨ s.issuer = .agent .transport →
    exec i s = .next s.refusedWith5) ∧
  (∀ (i : Instr) (s : State), i = .reset ∨ i = .readerr ∨ (∃ len p, i = .send len p) → s.issuer ≠ .agent .appSend →
    exec i s = .next s.refusedWith5) ∧
  (∀ s : State, s.issuer ≠ .agent .appRecv → exec .recv s = .next s.refusedWith5) ∧
  (∀ (i : Instr) (s : State) (a : Agent), isWireFrame i = true → s.issuer = .agent a → exec i s = .next s.refusedWith5) ∧
  (∀ (s : State) (who : Issuer) (bs : Bytes) (rest : List Input),
    s.inputs = .issue who (.wire bs) :: rest → bs.length ≠ 18 →
    step s = .next { s with inputs := rest, issuer := who, returns := s.returns ++ [(who, .status 0x05#8)] }) ∧
  (∀ (s : State) (who : Issuer) (op : BitVec 4) (operands : List Operand) (rest : List Input),
    s.inputs = .issue who (.cmd op operands) :: rest → operands.length ≠ operandCount op →
    step s = .next { s with inputs := rest, issuer := who, returns := s.returns ++ [(who, .status 0x05#8)] }) ∧
  (∀ (i : Instr) (s : State), isPure i = true → i ≠ .readerr → s.writerTurn →
    ∃ r, exec i s = .next { s with returns := s.returns ++ [(.block, r)] } ∧
      exec i { s with issuer := .agent .appSend, sendTask := [] } =
        .next { s with issuer := .agent .appSend, sendTask := [], returns := s.returns ++ [(.agent .appSend, r)] })

/-- The model's choice (log entry 7): a chunk INGRESS cannot take stays pending on the inbound wire, behind the older ones, and
INGRESS's step, none while halted, takes the oldest just as RXCHUNK on it would run; any other admissible operation whose issuer
is inside another one, or that belongs to INGRESS's activity while that is halted or busy, does not start and changes nothing. -/
def Obligations.ChunksWaitAndOtherOperationsDoNotStart : Prop :=
  (∀ (bs : Bytes) (s : State), s.issuer = .agent .transport →
    s.halted = true ∨ s.ingressTask ≠ [] ∨ s.offered ≠ [] →
    exec (.rxchunk bs) s = .next { s with offered := s.offered ++ [bs] }) ∧
  (∀ (s : State) (bs : Bytes) (rest : List Bytes), s.ingressTask = [] → s.offered = bs :: rest → s.halted = false →
    ∃ t, exec (.rxchunk bs) { s with offered := [], issuer := .agent .transport } = .next t ∧
      advanceIngress s = { t with offered := rest, issuer := s.issuer }) ∧
  (∀ s : State, s.halted = true → advanceIngress s = s) ∧
  (∀ (i : Instr) (s : State), isAppSend i = true → admissible s i = true → s.issuer = .agent .appSend → s.sendTask ≠ [] →
    exec i s = .next s) ∧
  (∀ (i : Instr) (s : State), isIngress i = true → admissible s i = true → s.issuer = .block →
    s.halted = true ∨ s.ingressTask ≠ [] → exec i s = .next s) ∧
  (∀ (i : Instr) (s : State), (isPure i = true ∧ i ≠ .readerr) ∨ (∃ f, i = .txframe f) → admissible s i = true →
    s.issuer = .block → s.unitTask ≠ [] → exec i s = .next s)
end

