-- ==== Sys2Proof/Laws/Crc.lean ====
section
/-! SUPPORT. Small laws of the constants and of the CRC function. -/

namespace Sys2Proof.Machine

@[simp] theorem CONFIG_frameLen : CONFIG.frameLen = 18 := rfl
@[simp] theorem CONFIG_payloadLen : CONFIG.payloadLen = 16 := rfl
@[simp] theorem CONFIG_crcInLen : CONFIG.crcInLen = 17 := rfl
@[simp] theorem CONFIG_lenMin : CONFIG.lenMin = 1 := rfl
@[simp] theorem CONFIG_lenMax : CONFIG.lenMax = 16 := rfl
@[simp] theorem CONFIG_pad : CONFIG.pad = 0xFF#8 := rfl
@[simp] theorem CONFIG_poly : CONFIG.poly = 0x07#8 := rfl
@[simp] theorem CONFIG_crcInit : CONFIG.crcInit = 0x00#8 := rfl
@[simp] theorem CONFIG_ackSentinel : CONFIG.ackSentinel = 0x15#8 := rfl
@[simp] theorem CONFIG_retxSentinel : CONFIG.retxSentinel = 0x19#8 := rfl

@[simp] theorem crcFrom_nil (acc : Byte) : crcFrom acc [] = acc := rfl

@[simp] theorem crcFrom_cons (acc b : Byte) (bs : Bytes) : crcFrom acc (b :: bs) = crcFrom (crcByte acc b) bs := rfl

theorem crcFrom_append (acc : Byte) (xs ys : Bytes) : crcFrom acc (xs ++ ys) = crcFrom (crcFrom acc xs) ys := by
  simp [crcFrom, List.foldl_append]

theorem crc8_append (xs ys : Bytes) : crc8 (xs ++ ys) = crcFrom (crc8 xs) ys := crcFrom_append _ _ _

/-- The round distributes over XOR: shifting and the conditional XOR are linear in the bits. -/
theorem crcRound_xor (a b : Byte) : crcRound (a ^^^ b) = crcRound a ^^^ crcRound b := by
  revert a b
  have h : ∀ x : Byte, crcRound x = (x <<< 1) ^^^ (if x.getLsbD 7 then 0x07#8 else 0x00#8) := by
    intro x
    unfold crcRound
    split <;> simp [CONFIG_poly]
  have hm : ∀ p q : Bool, (if (p ^^ q) = true then 0x07#8 else 0x00#8) =
      (if p = true then 0x07#8 else 0x00#8) ^^^ (if q = true then 0x07#8 else 0x00#8) := by decide
  intro a b
  rw [h, h a, h b, BitVec.shiftLeft_xor_distrib, BitVec.getLsbD_xor, hm]
  ac_rfl

theorem crcRounds_xor (n : Nat) (a b : Byte) : crcRounds n (a ^^^ b) = crcRounds n a ^^^ crcRounds n b := by
  induction n generalizing a b with
  | zero => rfl
  | succ n ih => simp [crcRounds, crcRound_xor, ih]

theorem crcByte_xor (a b c d : Byte) : crcByte (a ^^^ b) (c ^^^ d) = crcByte a c ^^^ crcByte b d := by
  have h : a ^^^ b ^^^ (c ^^^ d) = (a ^^^ c) ^^^ (b ^^^ d) := by ac_rfl
  simp only [crcByte, h, crcRounds_xor]

end Sys2Proof.Machine
end

