-- ==== Sys2Proof/Laws/Codec.lean ====
section
/-! SUPPORT. Small laws of frames: lengths, and that field extraction undoes the wire form. -/

namespace Sys2Proof.Machine

@[simp] theorem isFrame18_iff (s : Bytes) : isFrame18 s = true ↔ s.length = 18 := decide_eq_true_iff

@[simp] theorem frame_wf_iff (fr : Frame) : fr.wf = true ↔ fr.payload.length = 16 := decide_eq_true_iff

/-- The encoder's admission in numbers (41_codec.md R150, R151). -/
theorem encodeAdmits_iff (len : Byte) (p : Bytes) :
    encodeAdmits len p = true ↔ 1 ≤ len.toNat ∧ len.toNat ≤ 16 ∧ p.length ≤ 16 ∧ p.length ≤ len.toNat := by
  simp only [encodeAdmits, Bool.and_eq_true, decide_eq_true_iff, and_assoc]
  exact Iff.rfl

theorem padded_length (p : Bytes) (h : p.length ≤ 16) : (padded p).length = 16 := by
  simp [padded, rep]; omega

theorem frameBytes_length (fr : Frame) : (frameBytes fr).length = fr.payload.length + 2 := by
  simp [frameBytes, crcInput]

theorem buildFrame_length (len : Byte) (p : Bytes) (h : p.length ≤ 16) : (buildFrame len p).length = 18 := by
  simp [buildFrame, padded_length p h]

theorem frameOf_wf (s : Bytes) (h : s.length = 18) : (frameOf s).wf = true := by
  simp [frameOf, h]

/-- Extracting the fields of a frame's wire form gives the frame back (30_encoding.md R91). -/
theorem frameOf_frameBytes (fr : Frame) (h : fr.payload.length = 16) : frameOf (frameBytes fr) = fr := by
  have hc : (fr.payload ++ [fr.crc]).getD 16 0#8 = fr.crc := by
    rw [List.getD_append_right _ _ _ _ (by omega)]; simp [h]
  cases fr with
  | mk l p c =>
    simp only at h hc
    simp [frameOf, frameBytes, crcInput, h]

/-- The wire form of the fields of 18 bytes is those bytes (30_encoding.md R90). -/
theorem frameBytes_frameOf (s : Bytes) (h : s.length = 18) : frameBytes (frameOf s) = s := by
  match s, h with
  | [a0, a1, a2, a3, a4, a5, a6, a7, a8, a9, a10, a11, a12, a13, a14, a15, a16, a17], _ => rfl

/-- The bytes of `ACK_FRAME` (30_encoding.md R93). -/
theorem ackFrame_bytes : ackFrame = [0x01#8, 0x15#8] ++ rep 15 0xFF#8 ++ [0x27#8] := by decide +kernel

/-- The bytes of `RETX_FRAME` (30_encoding.md R93). -/
theorem retxFrame_bytes : retxFrame = [0x01#8, 0x19#8] ++ rep 15 0xFF#8 ++ [0x3F#8] := by decide +kernel

@[simp] theorem ackFrame_length : ackFrame.length = 18 := buildFrame_length _ _ (by simp)

@[simp] theorem retxFrame_length : retxFrame.length = 18 := buildFrame_length _ _ (by simp)

/-- A frame of class RETX is `RETX_FRAME` and CRC-valid. -/
theorem classify_retx {fr : Frame} (h : classify fr = .retx) : validate fr = true ∧ frameBytes fr = retxFrame := by
  unfold classify at h; grind

/-- A frame of class ACK is `ACK_FRAME` and CRC-valid. -/
theorem classify_ack {fr : Frame} (h : classify fr = .ack) : validate fr = true ∧ frameBytes fr = ackFrame := by
  unfold classify at h; grind

theorem classify_retxFrame : classify (frameOf retxFrame) = .retx := by decide +kernel

theorem classify_ackFrame : classify (frameOf ackFrame) = .ack := by decide +kernel

end Sys2Proof.Machine
end

