-- ==== Sys2Proof/Laws/State.lean ====
section
/-! SUPPORT. What each named operation does to each field of the state: one lemma per field per update, true by rfl. -/

namespace Sys2Proof.Machine

variable (s : State)

@[simp] theorem State.raise_err_none (c : Cause) : (s.raise c none).err = s.err := rfl
@[simp] theorem State.raise_err_some (c : Cause) (b : ErrBit) : (s.raise c (some b)).err = setErrBit s.err b := rfl

@[simp] theorem State.ret_params (r : Result) : (s.ret r).params = s.params := rfl
@[simp] theorem State.ret_cache (r : Result) : (s.ret r).cache = s.cache := rfl
@[simp] theorem State.ret_rxbuf (r : Result) : (s.ret r).rxbuf = s.rxbuf := rfl
@[simp] theorem State.ret_inq (r : Result) : (s.ret r).inq = s.inq := rfl
@[simp] theorem State.ret_err (r : Result) : (s.ret r).err = s.err := rfl
@[simp] theorem State.ret_recvWait (r : Result) : (s.ret r).recvWait = s.recvWait := rfl
@[simp] theorem State.ret_txlog (r : Result) : (s.ret r).txlog = s.txlog := rfl
@[simp] theorem State.ret_wireOut (r : Result) : (s.ret r).wireOut = s.wireOut := rfl
@[simp] theorem State.ret_offered (r : Result) : (s.ret r).offered = s.offered := rfl
@[simp] theorem State.ret_answers (r : Result) : (s.ret r).answers = s.answers := rfl
@[simp] theorem State.ret_draws (r : Result) : (s.ret r).draws = s.draws := rfl
@[simp] theorem State.ret_issuer (r : Result) : (s.ret r).issuer = s.issuer := rfl
@[simp] theorem State.ret_inputs (r : Result) : (s.ret r).inputs = s.inputs := rfl
@[simp] theorem State.ret_returns (r : Result) : (s.ret r).returns = s.returns ++ [(s.issuer, r)] := rfl
@[simp] theorem State.ret_raised (r : Result) : (s.ret r).raised = s.raised := rfl
@[simp] theorem State.ret_ingressTask (r : Result) : (s.ret r).ingressTask = s.ingressTask := rfl
@[simp] theorem State.ret_sendTask (r : Result) : (s.ret r).sendTask = s.sendTask := rfl
@[simp] theorem State.ret_unitTask (r : Result) : (s.ret r).unitTask = s.unitTask := rfl

@[simp] theorem State.refuse_params : (s.refuse).params = s.params := rfl
@[simp] theorem State.refuse_cache : (s.refuse).cache = s.cache := rfl
@[simp] theorem State.refuse_rxbuf : (s.refuse).rxbuf = s.rxbuf := rfl
@[simp] theorem State.refuse_inq : (s.refuse).inq = s.inq := rfl
@[simp] theorem State.refuse_err : (s.refuse).err = s.err := rfl
@[simp] theorem State.refuse_recvWait : (s.refuse).recvWait = s.recvWait := rfl
@[simp] theorem State.refuse_txlog : (s.refuse).txlog = s.txlog := rfl
@[simp] theorem State.refuse_wireOut : (s.refuse).wireOut = s.wireOut := rfl
@[simp] theorem State.refuse_offered : (s.refuse).offered = s.offered := rfl
@[simp] theorem State.refuse_answers : (s.refuse).answers = s.answers := rfl
@[simp] theorem State.refuse_draws : (s.refuse).draws = s.draws := rfl
@[simp] theorem State.refuse_issuer : (s.refuse).issuer = s.issuer := rfl
@[simp] theorem State.refuse_inputs : (s.refuse).inputs = s.inputs := rfl
@[simp] theorem State.refuse_returns : (s.refuse).returns = s.returns ++ [(s.issuer, .status Cause.contractViolation.code)] := rfl
@[simp] theorem State.refuse_raised : (s.refuse).raised = s.raised := rfl
@[simp] theorem State.refuse_ingressTask : (s.refuse).ingressTask = s.ingressTask := rfl
@[simp] theorem State.refuse_sendTask : (s.refuse).sendTask = s.sendTask := rfl
@[simp] theorem State.refuse_unitTask : (s.refuse).unitTask = s.unitTask := rfl

@[simp] theorem State.raise_params (c : Cause) (bit : Option ErrBit) : (s.raise c bit).params = s.params := rfl
@[simp] theorem State.raise_cache (c : Cause) (bit : Option ErrBit) : (s.raise c bit).cache = s.cache := rfl
@[simp] theorem State.raise_rxbuf (c : Cause) (bit : Option ErrBit) : (s.raise c bit).rxbuf = s.rxbuf := rfl
@[simp] theorem State.raise_inq (c : Cause) (bit : Option ErrBit) : (s.raise c bit).inq = s.inq := rfl
@[simp] theorem State.raise_recvWait (c : Cause) (bit : Option ErrBit) : (s.raise c bit).recvWait = s.recvWait := rfl
@[simp] theorem State.raise_txlog (c : Cause) (bit : Option ErrBit) : (s.raise c bit).txlog = s.txlog := rfl
@[simp] theorem State.raise_wireOut (c : Cause) (bit : Option ErrBit) : (s.raise c bit).wireOut = s.wireOut := rfl
@[simp] theorem State.raise_offered (c : Cause) (bit : Option ErrBit) : (s.raise c bit).offered = s.offered := rfl
@[simp] theorem State.raise_answers (c : Cause) (bit : Option ErrBit) : (s.raise c bit).answers = s.answers := rfl
@[simp] theorem State.raise_draws (c : Cause) (bit : Option ErrBit) : (s.raise c bit).draws = s.draws := rfl
@[simp] theorem State.raise_issuer (c : Cause) (bit : Option ErrBit) : (s.raise c bit).issuer = s.issuer := rfl
@[simp] theorem State.raise_inputs (c : Cause) (bit : Option ErrBit) : (s.raise c bit).inputs = s.inputs := rfl
@[simp] theorem State.raise_returns (c : Cause) (bit : Option ErrBit) : (s.raise c bit).returns = s.returns := rfl
@[simp] theorem State.raise_raised (c : Cause) (bit : Option ErrBit) : (s.raise c bit).raised = s.raised ++ [c] := rfl
@[simp] theorem State.raise_ingressTask (c : Cause) (bit : Option ErrBit) : (s.raise c bit).ingressTask = s.ingressTask := rfl
@[simp] theorem State.raise_sendTask (c : Cause) (bit : Option ErrBit) : (s.raise c bit).sendTask = s.sendTask := rfl
@[simp] theorem State.raise_unitTask (c : Cause) (bit : Option ErrBit) : (s.raise c bit).unitTask = s.unitTask := rfl

@[simp] theorem State.rxAppend_params (bs : Bytes) : (s.rxAppend bs).params = s.params := rfl
@[simp] theorem State.rxAppend_cache (bs : Bytes) : (s.rxAppend bs).cache = s.cache := rfl
@[simp] theorem State.rxAppend_rxbuf (bs : Bytes) : (s.rxAppend bs).rxbuf = s.rxbuf ++ bs := rfl
@[simp] theorem State.rxAppend_inq (bs : Bytes) : (s.rxAppend bs).inq = s.inq := rfl
@[simp] theorem State.rxAppend_err (bs : Bytes) : (s.rxAppend bs).err = s.err := rfl
@[simp] theorem State.rxAppend_recvWait (bs : Bytes) : (s.rxAppend bs).recvWait = s.recvWait := rfl
@[simp] theorem State.rxAppend_txlog (bs : Bytes) : (s.rxAppend bs).txlog = s.txlog := rfl
@[simp] theorem State.rxAppend_wireOut (bs : Bytes) : (s.rxAppend bs).wireOut = s.wireOut := rfl
@[simp] theorem State.rxAppend_offered (bs : Bytes) : (s.rxAppend bs).offered = s.offered := rfl
@[simp] theorem State.rxAppend_answers (bs : Bytes) : (s.rxAppend bs).answers = s.answers := rfl
@[simp] theorem State.rxAppend_draws (bs : Bytes) : (s.rxAppend bs).draws = s.draws := rfl
@[simp] theorem State.rxAppend_issuer (bs : Bytes) : (s.rxAppend bs).issuer = s.issuer := rfl
@[simp] theorem State.rxAppend_inputs (bs : Bytes) : (s.rxAppend bs).inputs = s.inputs := rfl
@[simp] theorem State.rxAppend_returns (bs : Bytes) : (s.rxAppend bs).returns = s.returns := rfl
@[simp] theorem State.rxAppend_raised (bs : Bytes) : (s.rxAppend bs).raised = s.raised := rfl
@[simp] theorem State.rxAppend_ingressTask (bs : Bytes) : (s.rxAppend bs).ingressTask = s.ingressTask := rfl
@[simp] theorem State.rxAppend_sendTask (bs : Bytes) : (s.rxAppend bs).sendTask = s.sendTask := rfl
@[simp] theorem State.rxAppend_unitTask (bs : Bytes) : (s.rxAppend bs).unitTask = s.unitTask := rfl

@[simp] theorem State.rxTake_params : (s.rxTake).params = s.params := rfl
@[simp] theorem State.rxTake_cache : (s.rxTake).cache = s.cache := rfl
@[simp] theorem State.rxTake_rxbuf : (s.rxTake).rxbuf = s.rxbuf.drop CONFIG.frameLen := rfl
@[simp] theorem State.rxTake_inq : (s.rxTake).inq = s.inq := rfl
@[simp] theorem State.rxTake_err : (s.rxTake).err = s.err := rfl
@[simp] theorem State.rxTake_recvWait : (s.rxTake).recvWait = s.recvWait := rfl
@[simp] theorem State.rxTake_txlog : (s.rxTake).txlog = s.txlog := rfl
@[simp] theorem State.rxTake_wireOut : (s.rxTake).wireOut = s.wireOut := rfl
@[simp] theorem State.rxTake_offered : (s.rxTake).offered = s.offered := rfl
@[simp] theorem State.rxTake_answers : (s.rxTake).answers = s.answers := rfl
@[simp] theorem State.rxTake_draws : (s.rxTake).draws = s.draws := rfl
@[simp] theorem State.rxTake_issuer : (s.rxTake).issuer = s.issuer := rfl
@[simp] theorem State.rxTake_inputs : (s.rxTake).inputs = s.inputs := rfl
@[simp] theorem State.rxTake_returns : (s.rxTake).returns = s.returns := rfl
@[simp] theorem State.rxTake_raised : (s.rxTake).raised = s.raised := rfl
@[simp] theorem State.rxTake_ingressTask : (s.rxTake).ingressTask = s.ingressTask := rfl
@[simp] theorem State.rxTake_sendTask : (s.rxTake).sendTask = s.sendTask := rfl
@[simp] theorem State.rxTake_unitTask : (s.rxTake).unitTask = s.unitTask := rfl

@[simp] theorem State.cacheWrite_params (f : Bytes) : (s.cacheWrite f).params = s.params := rfl
@[simp] theorem State.cacheWrite_cache (f : Bytes) : (s.cacheWrite f).cache = some f := rfl
@[simp] theorem State.cacheWrite_rxbuf (f : Bytes) : (s.cacheWrite f).rxbuf = s.rxbuf := rfl
@[simp] theorem State.cacheWrite_inq (f : Bytes) : (s.cacheWrite f).inq = s.inq := rfl
@[simp] theorem State.cacheWrite_err (f : Bytes) : (s.cacheWrite f).err = s.err := rfl
@[simp] theorem State.cacheWrite_recvWait (f : Bytes) : (s.cacheWrite f).recvWait = s.recvWait := rfl
@[simp] theorem State.cacheWrite_txlog (f : Bytes) : (s.cacheWrite f).txlog = s.txlog := rfl
@[simp] theorem State.cacheWrite_wireOut (f : Bytes) : (s.cacheWrite f).wireOut = s.wireOut := rfl
@[simp] theorem State.cacheWrite_offered (f : Bytes) : (s.cacheWrite f).offered = s.offered := rfl
@[simp] theorem State.cacheWrite_answers (f : Bytes) : (s.cacheWrite f).answers = s.answers := rfl
@[simp] theorem State.cacheWrite_draws (f : Bytes) : (s.cacheWrite f).draws = s.draws := rfl
@[simp] theorem State.cacheWrite_issuer (f : Bytes) : (s.cacheWrite f).issuer = s.issuer := rfl
@[simp] theorem State.cacheWrite_inputs (f : Bytes) : (s.cacheWrite f).inputs = s.inputs := rfl
@[simp] theorem State.cacheWrite_returns (f : Bytes) : (s.cacheWrite f).returns = s.returns := rfl
@[simp] theorem State.cacheWrite_raised (f : Bytes) : (s.cacheWrite f).raised = s.raised := rfl
@[simp] theorem State.cacheWrite_ingressTask (f : Bytes) : (s.cacheWrite f).ingressTask = s.ingressTask := rfl
@[simp] theorem State.cacheWrite_sendTask (f : Bytes) : (s.cacheWrite f).sendTask = s.sendTask := rfl
@[simp] theorem State.cacheWrite_unitTask (f : Bytes) : (s.cacheWrite f).unitTask = s.unitTask := rfl

@[simp] theorem State.qPush_params (fr : Frame) : (s.qPush fr).params = s.params := rfl
@[simp] theorem State.qPush_cache (fr : Frame) : (s.qPush fr).cache = s.cache := rfl
@[simp] theorem State.qPush_rxbuf (fr : Frame) : (s.qPush fr).rxbuf = s.rxbuf := rfl
@[simp] theorem State.qPush_inq (fr : Frame) : (s.qPush fr).inq = s.inq ++ [fr] := rfl
@[simp] theorem State.qPush_err (fr : Frame) : (s.qPush fr).err = s.err := rfl
@[simp] theorem State.qPush_recvWait (fr : Frame) : (s.qPush fr).recvWait = s.recvWait := rfl
@[simp] theorem State.qPush_txlog (fr : Frame) : (s.qPush fr).txlog = s.txlog := rfl
@[simp] theorem State.qPush_wireOut (fr : Frame) : (s.qPush fr).wireOut = s.wireOut := rfl
@[simp] theorem State.qPush_offered (fr : Frame) : (s.qPush fr).offered = s.offered := rfl
@[simp] theorem State.qPush_answers (fr : Frame) : (s.qPush fr).answers = s.answers := rfl
@[simp] theorem State.qPush_draws (fr : Frame) : (s.qPush fr).draws = s.draws := rfl
@[simp] theorem State.qPush_issuer (fr : Frame) : (s.qPush fr).issuer = s.issuer := rfl
@[simp] theorem State.qPush_inputs (fr : Frame) : (s.qPush fr).inputs = s.inputs := rfl
@[simp] theorem State.qPush_returns (fr : Frame) : (s.qPush fr).returns = s.returns := rfl
@[simp] theorem State.qPush_raised (fr : Frame) : (s.qPush fr).raised = s.raised := rfl
@[simp] theorem State.qPush_ingressTask (fr : Frame) : (s.qPush fr).ingressTask = s.ingressTask := rfl
@[simp] theorem State.qPush_sendTask (fr : Frame) : (s.qPush fr).sendTask = s.sendTask := rfl
@[simp] theorem State.qPush_unitTask (fr : Frame) : (s.qPush fr).unitTask = s.unitTask := rfl

@[simp] theorem State.qPop_params : (s.qPop).params = s.params := rfl
@[simp] theorem State.qPop_cache : (s.qPop).cache = s.cache := rfl
@[simp] theorem State.qPop_rxbuf : (s.qPop).rxbuf = s.rxbuf := rfl
@[simp] theorem State.qPop_inq : (s.qPop).inq = s.inq.tail := rfl
@[simp] theorem State.qPop_err : (s.qPop).err = s.err := rfl
@[simp] theorem State.qPop_recvWait : (s.qPop).recvWait = s.recvWait := rfl
@[simp] theorem State.qPop_txlog : (s.qPop).txlog = s.txlog := rfl
@[simp] theorem State.qPop_wireOut : (s.qPop).wireOut = s.wireOut := rfl
@[simp] theorem State.qPop_offered : (s.qPop).offered = s.offered := rfl
@[simp] theorem State.qPop_answers : (s.qPop).answers = s.answers := rfl
@[simp] theorem State.qPop_draws : (s.qPop).draws = s.draws := rfl
@[simp] theorem State.qPop_issuer : (s.qPop).issuer = s.issuer := rfl
@[simp] theorem State.qPop_inputs : (s.qPop).inputs = s.inputs := rfl
@[simp] theorem State.qPop_returns : (s.qPop).returns = s.returns := rfl
@[simp] theorem State.qPop_raised : (s.qPop).raised = s.raised := rfl
@[simp] theorem State.qPop_ingressTask : (s.qPop).ingressTask = s.ingressTask := rfl
@[simp] theorem State.qPop_sendTask : (s.qPop).sendTask = s.sendTask := rfl
@[simp] theorem State.qPop_unitTask : (s.qPop).unitTask = s.unitTask := rfl

@[simp] theorem State.transmit_params (f : Bytes) : (s.transmit f).params = s.params := rfl
@[simp] theorem State.transmit_cache (f : Bytes) : (s.transmit f).cache = s.cache := rfl
@[simp] theorem State.transmit_rxbuf (f : Bytes) : (s.transmit f).rxbuf = s.rxbuf := rfl
@[simp] theorem State.transmit_inq (f : Bytes) : (s.transmit f).inq = s.inq := rfl
@[simp] theorem State.transmit_err (f : Bytes) : (s.transmit f).err = s.err := rfl
@[simp] theorem State.transmit_recvWait (f : Bytes) : (s.transmit f).recvWait = s.recvWait := rfl
@[simp] theorem State.transmit_txlog (f : Bytes) : (s.transmit f).txlog = s.txlog ++ [(f, s.txResult)] := rfl
@[simp] theorem State.transmit_wireOut (f : Bytes) : (s.transmit f).wireOut = s.wireOut ++ Answer.wired s.answer f := rfl
@[simp] theorem State.transmit_offered (f : Bytes) : (s.transmit f).offered = s.offered := rfl
@[simp] theorem State.transmit_answers (f : Bytes) : (s.transmit f).answers = s.answers.tail := rfl
@[simp] theorem State.transmit_draws (f : Bytes) : (s.transmit f).draws = s.draws + 1 := rfl
@[simp] theorem State.transmit_issuer (f : Bytes) : (s.transmit f).issuer = s.issuer := rfl
@[simp] theorem State.transmit_inputs (f : Bytes) : (s.transmit f).inputs = s.inputs := rfl
@[simp] theorem State.transmit_returns (f : Bytes) : (s.transmit f).returns = s.returns := rfl
@[simp] theorem State.transmit_raised (f : Bytes) : (s.transmit f).raised = s.raised := rfl
@[simp] theorem State.transmit_ingressTask (f : Bytes) : (s.transmit f).ingressTask = s.ingressTask := rfl
@[simp] theorem State.transmit_sendTask (f : Bytes) : (s.transmit f).sendTask = s.sendTask := rfl
@[simp] theorem State.transmit_unitTask (f : Bytes) : (s.transmit f).unitTask = s.unitTask := rfl

@[simp] theorem State.popInput_params : (s.popInput).params = s.params := rfl
@[simp] theorem State.popInput_cache : (s.popInput).cache = s.cache := rfl
@[simp] theorem State.popInput_rxbuf : (s.popInput).rxbuf = s.rxbuf := rfl
@[simp] theorem State.popInput_inq : (s.popInput).inq = s.inq := rfl
@[simp] theorem State.popInput_err : (s.popInput).err = s.err := rfl
@[simp] theorem State.popInput_recvWait : (s.popInput).recvWait = s.recvWait := rfl
@[simp] theorem State.popInput_txlog : (s.popInput).txlog = s.txlog := rfl
@[simp] theorem State.popInput_wireOut : (s.popInput).wireOut = s.wireOut := rfl
@[simp] theorem State.popInput_offered : (s.popInput).offered = s.offered := rfl
@[simp] theorem State.popInput_answers : (s.popInput).answers = s.answers := rfl
@[simp] theorem State.popInput_draws : (s.popInput).draws = s.draws := rfl
@[simp] theorem State.popInput_issuer : (s.popInput).issuer = s.issuer := rfl
@[simp] theorem State.popInput_inputs : (s.popInput).inputs = s.inputs.tail := rfl
@[simp] theorem State.popInput_returns : (s.popInput).returns = s.returns := rfl
@[simp] theorem State.popInput_raised : (s.popInput).raised = s.raised := rfl
@[simp] theorem State.popInput_ingressTask : (s.popInput).ingressTask = s.ingressTask := rfl
@[simp] theorem State.popInput_sendTask : (s.popInput).sendTask = s.sendTask := rfl
@[simp] theorem State.popInput_unitTask : (s.popInput).unitTask = s.unitTask := rfl

@[simp] theorem State.issuedBy_params (who : Issuer) : (s.issuedBy who).params = s.params := rfl
@[simp] theorem State.issuedBy_cache (who : Issuer) : (s.issuedBy who).cache = s.cache := rfl
@[simp] theorem State.issuedBy_rxbuf (who : Issuer) : (s.issuedBy who).rxbuf = s.rxbuf := rfl
@[simp] theorem State.issuedBy_inq (who : Issuer) : (s.issuedBy who).inq = s.inq := rfl
@[simp] theorem State.issuedBy_err (who : Issuer) : (s.issuedBy who).err = s.err := rfl
@[simp] theorem State.issuedBy_recvWait (who : Issuer) : (s.issuedBy who).recvWait = s.recvWait := rfl
@[simp] theorem State.issuedBy_txlog (who : Issuer) : (s.issuedBy who).txlog = s.txlog := rfl
@[simp] theorem State.issuedBy_wireOut (who : Issuer) : (s.issuedBy who).wireOut = s.wireOut := rfl
@[simp] theorem State.issuedBy_offered (who : Issuer) : (s.issuedBy who).offered = s.offered := rfl
@[simp] theorem State.issuedBy_answers (who : Issuer) : (s.issuedBy who).answers = s.answers := rfl
@[simp] theorem State.issuedBy_draws (who : Issuer) : (s.issuedBy who).draws = s.draws := rfl
@[simp] theorem State.issuedBy_issuer (who : Issuer) : (s.issuedBy who).issuer = who := rfl
@[simp] theorem State.issuedBy_inputs (who : Issuer) : (s.issuedBy who).inputs = s.inputs.tail := rfl
@[simp] theorem State.issuedBy_returns (who : Issuer) : (s.issuedBy who).returns = s.returns := rfl
@[simp] theorem State.issuedBy_raised (who : Issuer) : (s.issuedBy who).raised = s.raised := rfl
@[simp] theorem State.issuedBy_ingressTask (who : Issuer) : (s.issuedBy who).ingressTask = s.ingressTask := rfl
@[simp] theorem State.issuedBy_sendTask (who : Issuer) : (s.issuedBy who).sendTask = s.sendTask := rfl
@[simp] theorem State.issuedBy_unitTask (who : Issuer) : (s.issuedBy who).unitTask = s.unitTask := rfl

@[simp] theorem State.retTo_params (who : Issuer) (r : Result) : (s.retTo who r).params = s.params := rfl
@[simp] theorem State.retTo_cache (who : Issuer) (r : Result) : (s.retTo who r).cache = s.cache := rfl
@[simp] theorem State.retTo_rxbuf (who : Issuer) (r : Result) : (s.retTo who r).rxbuf = s.rxbuf := rfl
@[simp] theorem State.retTo_inq (who : Issuer) (r : Result) : (s.retTo who r).inq = s.inq := rfl
@[simp] theorem State.retTo_err (who : Issuer) (r : Result) : (s.retTo who r).err = s.err := rfl
@[simp] theorem State.retTo_recvWait (who : Issuer) (r : Result) : (s.retTo who r).recvWait = s.recvWait := rfl
@[simp] theorem State.retTo_txlog (who : Issuer) (r : Result) : (s.retTo who r).txlog = s.txlog := rfl
@[simp] theorem State.retTo_wireOut (who : Issuer) (r : Result) : (s.retTo who r).wireOut = s.wireOut := rfl
@[simp] theorem State.retTo_offered (who : Issuer) (r : Result) : (s.retTo who r).offered = s.offered := rfl
@[simp] theorem State.retTo_answers (who : Issuer) (r : Result) : (s.retTo who r).answers = s.answers := rfl
@[simp] theorem State.retTo_draws (who : Issuer) (r : Result) : (s.retTo who r).draws = s.draws := rfl
@[simp] theorem State.retTo_issuer (who : Issuer) (r : Result) : (s.retTo who r).issuer = s.issuer := rfl
@[simp] theorem State.retTo_inputs (who : Issuer) (r : Result) : (s.retTo who r).inputs = s.inputs := rfl
@[simp] theorem State.retTo_returns (who : Issuer) (r : Result) : (s.retTo who r).returns = s.returns ++ [(who, r)] := rfl
@[simp] theorem State.retTo_raised (who : Issuer) (r : Result) : (s.retTo who r).raised = s.raised := rfl
@[simp] theorem State.retTo_ingressTask (who : Issuer) (r : Result) : (s.retTo who r).ingressTask = s.ingressTask := rfl
@[simp] theorem State.retTo_sendTask (who : Issuer) (r : Result) : (s.retTo who r).sendTask = s.sendTask := rfl
@[simp] theorem State.retTo_unitTask (who : Issuer) (r : Result) : (s.retTo who r).unitTask = s.unitTask := rfl

end Sys2Proof.Machine
end

