-- ==== Sys2Proof/Laws/Ops.lean ====
section
/-! SUPPORT. One specification lemma for each shared operation: admission, the write of a frame, the frame actions, DISPATCH. -/

namespace Sys2Proof.Machine

/-! ### Admission -/

theorem attempt_refused {s : State} {g : OpGroup} {adm : Bool} (wait run : State → State)
    (h : (g.permits s.issuer && adm) = false) : s.attempt g adm wait run = s.refusedWith5 := by
  simp only [State.attempt, h]; rfl

theorem attempt_runs {s : State} {g : OpGroup} {adm : Bool} (wait run : State → State)
    (h : (g.permits s.issuer && adm) = true) (hr : g.ready s = true) : s.attempt g adm wait run = run s := by
  simp [State.attempt, h, hr]

theorem attempt_waits {s : State} {g : OpGroup} {adm : Bool} (wait run : State → State)
    (h : (g.permits s.issuer && adm) = true) (hr : g.ready s = false) : s.attempt g adm wait run = wait s := by
  simp [State.attempt, h, hr]

/-- Everything an admission can do. -/
theorem attempt_cases (s : State) (g : OpGroup) (adm : Bool) (wait run : State → State) :
    ((g.permits s.issuer && adm) = false ∧ s.attempt g adm wait run = s.refusedWith5) ∨
    ((g.permits s.issuer && adm) = true ∧ g.ready s = false ∧ s.attempt g adm wait run = wait s) ∨
    ((g.permits s.issuer && adm) = true ∧ g.ready s = true ∧ s.attempt g adm wait run = run s) := by
  cases h : (g.permits s.issuer && adm) with
  | false => exact .inl ⟨rfl, attempt_refused wait run h⟩
  | true =>
    cases hr : g.ready s with
    | false => exact .inr (.inl ⟨rfl, rfl, attempt_waits wait run h hr⟩)
    | true => exact .inr (.inr ⟨rfl, rfl, attempt_runs wait run h hr⟩)

theorem chunk_ready_iff (s : State) :
    OpGroup.ready .chunk s = true ↔ s.halted = false ∧ s.ingressTask = [] ∧ s.offered = [] := by
  simp [OpGroup.ready, and_assoc]

theorem ingress_ready_iff (s : State) :
    OpGroup.ready .ingress s = true ↔ s.halted = false ∧ s.ingressTask = [] := by
  simp [OpGroup.ready]

/-! ### Starting an operation -/

theorem startIngress_event {s : State} (h : s.params.atomicity = .event) (ps : List Prim) (whole : State → State) :
    s.startIngress ps whole = whole s := by simp [State.startIngress, h]

theorem startIngress_primitive {s : State} (h : s.params.atomicity = .primitive) (ps : List Prim) (whole : State → State) :
    s.startIngress ps whole = { s with ingressTask := ps } := by simp [State.startIngress, h]

theorem startUnit_event {s : State} (h : s.params.atomicity = .event) (ps : List Prim) (whole : State → State) :
    s.startUnit ps whole = whole s := by simp [State.startUnit, h]

theorem startUnit_primitive {s : State} (h : s.params.atomicity = .primitive) (ps : List Prim) (whole : State → State) :
    s.startUnit ps whole = { s with unitTask := ps } := by simp [State.startUnit, h]

theorem startSend_event {s : State} (h : s.params.atomicity = .event) (ps : List Prim) (whole : State → State) :
    s.startSend ps whole = whole s := by simp [State.startSend, h]

theorem startSend_primitive {s : State} (h : s.params.atomicity = .primitive) (ps : List Prim) (whole : State → State) :
    s.startSend ps whole = { s with sendTask := ps } := by simp [State.startSend, h]

/-! ### Writes -/

/-- TXFRAME leaves what 43_controller.md R205 says, for the answer drawn. -/
theorem txframe_eq (f : Bytes) (s : State) : txframe f s = s.afterWrite f s.answer := by
  unfold txframe State.txResult State.afterWrite State.transmit State.cacheWrite
  cases h : s.answer <;> simp [Answer.result, Answer.wired, State.txResult, h]

/-- A frame action's write leaves what R205 and R210 say. -/
theorem actionWrite_eq (f : Bytes) (s : State) : actionWrite f s = s.afterActionWrite f s.answer := by
  unfold actionWrite
  rw [txframe_eq]
  cases h : s.answer with
  | ok => simp [State.txResult, Answer.result, h, State.afterActionWrite]
  | fail n => simp only [State.txResult, Answer.result, h, State.afterActionWrite]; rfl

theorem txResult_eq (s : State) : s.txResult = Answer.result s.answer := rfl

theorem pushFrame_fits {s : State} (fr : Frame) (h : fits s.params.inqCap (s.inq.length + 1) = true) :
    pushFrame fr s = { s with inq := s.inq ++ [fr] } := by
  simp only [pushFrame, State.inqFits, h]; rfl

theorem pushFrame_overflows {s : State} (fr : Frame) (h : fits s.params.inqCap (s.inq.length + 1) = false) :
    pushFrame fr s = { s with err := s.err ||| 0x08#8, raised := s.raised ++ [.capacityOverflow] } := by
  simp only [pushFrame, State.inqFits, h]; rfl

/-! ### Frame actions -/

theorem actCorrupt_eq (s : State) :
    actCorrupt s = ({ s with raised := s.raised ++ [.checksumMismatch] } : State).afterActionWrite retxFrame s.answer := by
  rw [actCorrupt, actionWrite_eq]; rfl

theorem actRetx_none {s : State} (h : s.cache = none) :
    actRetx s = { s with err := s.err ||| 0x01#8, raised := s.raised ++ [.emptyCacheOnRetx] } := by
  have hr : actRetx s = s.raise .emptyCacheOnRetx (some .emptyCacheRetx) := by simp only [actRetx, h]
  rw [hr]; rfl

theorem actRetx_some {s : State} {c : Bytes} (h : s.cache = some c) : actRetx s = s.afterActionWrite c s.answer := by
  simp only [actRetx, h, actionWrite_eq]

theorem actData_fits {s : State} (fr : Frame) (h : fits s.params.inqCap (s.inq.length + 1) = true) :
    actData fr s = ({ s with inq := s.inq ++ [fr] } : State).afterActionWrite ackFrame s.answer := by
  have hf : s.inqFits = true := h
  simp only [actData, hf, if_true, pushFrame_fits fr h, actionWrite_eq]; rfl

theorem actData_overflows {s : State} (fr : Frame) (h : fits s.params.inqCap (s.inq.length + 1) = false) :
    actData fr s = { s with err := s.err ||| 0x08#8, raised := s.raised ++ [.capacityOverflow] } := by
  have hf : s.inqFits = false := h
  simp [actData, hf, pushFrame_overflows fr h]

/-- What no write, frame action or DISPATCH touches. -/
structure SameOutside (s t : State) : Prop where
  params : t.params = s.params
  rxbuf : t.rxbuf = s.rxbuf
  recvWait : t.recvWait = s.recvWait
  offered : t.offered = s.offered
  issuer : t.issuer = s.issuer
  inputs : t.inputs = s.inputs
  returns : t.returns = s.returns
  ingressTask : t.ingressTask = s.ingressTask
  sendTask : t.sendTask = s.sendTask
  unitTask : t.unitTask = s.unitTask

theorem SameOutside.refl (s : State) : SameOutside s s := ⟨rfl, rfl, rfl, rfl, rfl, rfl, rfl, rfl, rfl, rfl⟩

theorem SameOutside.trans {s t u : State} (h : SameOutside s t) (k : SameOutside t u) : SameOutside s u :=
  ⟨k.1.trans h.1, k.2.trans h.2, k.3.trans h.3, k.4.trans h.4, k.5.trans h.5, k.6.trans h.6, k.7.trans h.7,
    k.8.trans h.8, k.9.trans h.9, k.10.trans h.10⟩

theorem afterWrite_outside (s : State) (f : Bytes) (a : Answer) : SameOutside s (s.afterWrite f a) := by
  cases a <;> exact ⟨rfl, rfl, rfl, rfl, rfl, rfl, rfl, rfl, rfl, rfl⟩

theorem afterActionWrite_outside (s : State) (f : Bytes) (a : Answer) : SameOutside s (s.afterActionWrite f a) := by
  cases a <;> exact ⟨rfl, rfl, rfl, rfl, rfl, rfl, rfl, rfl, rfl, rfl⟩

theorem raise_outside (s : State) (c : Cause) (bit : Option ErrBit) : SameOutside s (s.raise c bit) :=
  ⟨rfl, rfl, rfl, rfl, rfl, rfl, rfl, rfl, rfl, rfl⟩

theorem qPush_outside (s : State) (fr : Frame) : SameOutside s (s.qPush fr) :=
  ⟨rfl, rfl, rfl, rfl, rfl, rfl, rfl, rfl, rfl, rfl⟩

theorem pushFrame_outside (fr : Frame) (s : State) : SameOutside s (pushFrame fr s) := by
  unfold pushFrame; split
  · exact qPush_outside s fr
  · exact raise_outside s _ _

theorem actionWrite_outside (f : Bytes) (s : State) : SameOutside s (actionWrite f s) := by
  rw [actionWrite_eq]; exact afterActionWrite_outside s f _

/-- DISPATCH touches only CACHE, INQ, ERR, TXLOG, the outbound wire, the draws and the cause trace (43_controller.md R200). -/
theorem dispatch_outside (f : Bytes) (s : State) : SameOutside s (dispatch f s) := by
  unfold dispatch
  split
  · exact (raise_outside s _ _).trans (actionWrite_outside _ _)
  · unfold actRetx; split
    · exact raise_outside s _ _
    · exact actionWrite_outside _ _
  · exact .refl s
  · unfold actData; split
    · exact (pushFrame_outside _ s).trans (actionWrite_outside _ _)
    · exact pushFrame_outside _ s

/-! ### What DISPATCH does not read -/

/-- s with everything DISPATCH neither reads nor writes taken from o. -/
def State.outsideOf (s o : State) : State :=
  { s with
    params := { s.params with rxbufCap := o.params.rxbufCap, atomicity := o.params.atomicity }
    rxbuf := o.rxbuf
    recvWait := o.recvWait
    offered := o.offered
    issuer := o.issuer
    inputs := o.inputs
    returns := o.returns
    ingressTask := o.ingressTask
    sendTask := o.sendTask
    unitTask := o.unitTask }

theorem afterActionWrite_outsideOf (s o : State) (f : Bytes) (a : Answer) :
    (s.outsideOf o).afterActionWrite f a = (s.afterActionWrite f a).outsideOf o := by cases a <;> rfl

theorem actionWrite_outsideOf (f : Bytes) (s o : State) :
    actionWrite f (s.outsideOf o) = (actionWrite f s).outsideOf o := by
  rw [actionWrite_eq, actionWrite_eq]; exact afterActionWrite_outsideOf s o f s.answer

/-- DISPATCH neither reads nor writes what is outside it (43_controller.md R207). -/
theorem dispatch_outsideOf (f : Bytes) (s o : State) : dispatch f (s.outsideOf o) = (dispatch f s).outsideOf o := by
  unfold dispatch
  split
  · exact actionWrite_outsideOf retxFrame (s.raise .checksumMismatch none) o
  · cases h : s.cache with
    | none =>
      have h' : (s.outsideOf o).cache = none := h
      rw [actRetx_none h, actRetx_none h']; rfl
    | some c =>
      have h' : (s.outsideOf o).cache = some c := h
      rw [actRetx_some h, actRetx_some h']; exact afterActionWrite_outsideOf s o c s.answer
  · rfl
  · unfold actData pushFrame
    show (if s.inqFits = true then _ else _) = _
    by_cases h : s.inqFits = true
    · have h' : (s.outsideOf o).inqFits = true := h
      simp only [h, h', if_true]
      exact actionWrite_outsideOf ackFrame (s.qPush (frameOf f)) o
    · have h' : ¬(s.outsideOf o).inqFits = true := h
      simp only [h, h']; rfl

end Sys2Proof.Machine
end

