-- ==== Sys2Proof/Laws/Drain.lean ====
section
/-! SUPPORT. The drain loop of 42_assembler.md R180: unrolling, its bound, what it leaves. -/

namespace Sys2Proof.Machine

theorem rxReady_iff (s : State) : s.rxReady = true ↔ 18 ≤ s.rxbuf.length := decide_eq_true_iff

theorem canSlice_iff (s : State) : s.canSlice = true ↔ 18 ≤ s.rxbuf.length ∧ s.halted = false := by
  rw [State.canSlice, Bool.and_eq_true, rxReady_iff, Bool.not_eq_true']

theorem canSlice_eq_false_iff (s : State) : s.canSlice = false ↔ s.rxbuf.length < 18 ∨ s.halted = true := by
  rw [← Bool.not_eq_true, canSlice_iff]
  cases s.halted <;> simp

theorem drain_stops {s : State} (h : s.canSlice = false) (n : Nat) : drain n s = s := by
  cases n <;> simp [drain, h]

theorem drain_slices {s : State} (h : s.canSlice = true) (n : Nat) :
    drain (n + 1) s = drain n (dispatch s.rxHead s.rxTake) := by simp [drain, h]

theorem dispatch_rxTake_length (s : State) (f : Bytes) : (dispatch f s.rxTake).rxbuf.length = s.rxbuf.length - 18 := by
  rw [(dispatch_outside f s.rxTake).rxbuf]; simp

/-- Any bound of at least the buffer's length gives the same drain. -/
theorem drain_bound (n m : Nat) (s : State) (hn : s.rxbuf.length ≤ n) (hm : s.rxbuf.length ≤ m) :
    drain n s = drain m s := by
  induction n generalizing m s with
  | zero =>
    have : s.canSlice = false := (canSlice_eq_false_iff s).2 (.inl (by omega))
    rw [drain_stops this, drain_stops this]
  | succ n ih =>
    cases h : s.canSlice with
    | false => rw [drain_stops h, drain_stops h]
    | true =>
      have h18 := ((canSlice_iff s).1 h).1
      cases m with
      | zero => omega
      | succ m =>
        rw [drain_slices h, drain_slices h]
        exact ih m _ (by rw [dispatch_rxTake_length]; omega) (by rw [dispatch_rxTake_length]; omega)

/-- The loop, one pass at a time, at its own bound. -/
theorem drain_unroll {s : State} (h : s.canSlice = true) :
    drain s.rxbuf.length s =
      drain (dispatch s.rxHead s.rxTake).rxbuf.length (dispatch s.rxHead s.rxTake) := by
  have h18 := ((canSlice_iff s).1 h).1
  obtain ⟨n, hn⟩ : ∃ n, s.rxbuf.length = n + 1 := ⟨s.rxbuf.length - 1, by omega⟩
  rw [hn, drain_slices h]
  exact drain_bound _ _ _ (by rw [dispatch_rxTake_length]; omega) le_rfl

/-- What the drain loop never touches: everything outside DISPATCH's reach but RXBUF. -/
theorem drain_keeps (n : Nat) (s : State) :
    (drain n s).params = s.params ∧ (drain n s).recvWait = s.recvWait ∧ (drain n s).offered = s.offered ∧
    (drain n s).issuer = s.issuer ∧ (drain n s).inputs = s.inputs ∧ (drain n s).returns = s.returns ∧
    (drain n s).ingressTask = s.ingressTask ∧ (drain n s).sendTask = s.sendTask ∧ (drain n s).unitTask = s.unitTask := by
  induction n generalizing s with
  | zero => simp [drain]
  | succ n ih =>
    cases h : s.canSlice with
    | false => simp [drain_stops h]
    | true =>
      rw [drain_slices h]
      have o := dispatch_outside s.rxHead s.rxTake
      obtain ⟨a, b, c, d, e, f, g, k, l⟩ := ih (dispatch s.rxHead s.rxTake)
      exact ⟨a.trans o.params, b.trans o.recvWait, c.trans o.offered, d.trans o.issuer, e.trans o.inputs,
        f.trans o.returns, g.trans o.ingressTask, k.trans o.sendTask, l.trans o.unitTask⟩

end Sys2Proof.Machine
end

