-- ==== Sys2Proof/Laws/PerInstr.lean ====
section
/-! SUPPORT. Statements made per instruction: the encoding of a well-formed operation has operands of the number and types
30_encoding.md R101 lists for its op, and a wire-frame row is 18 bytes (R90). -/

namespace Sys2Proof.Laws

open Sys2Proof Sys2Proof.Machine

/-- The types of 30_encoding.md R101's operand column. -/
inductive OperandType where
  | byte
  | bytes
  | frame18
  | frame
  deriving DecidableEq, Repr

/-- The operand column of 30_encoding.md R101. -/
def operandTypes (op : BitVec 4) : List OperandType :=
  match op.toNat with
  | 0x1 => [.bytes]
  | 0x2 => [.byte, .bytes]
  | 0x3 => [.bytes]
  | 0x4 => [.frame]
  | 0x5 => [.frame]
  | 0x6 => [.bytes]
  | 0x8 => [.frame18]
  | 0x9 => [.frame18]
  | 0xA => [.byte, .bytes]
  | 0xB => [.frame]
  | _ => []

/-- An operand is of a type. -/
def hasType : Operand → OperandType → Bool
  | .byte _, .byte => true
  | .bytes _, .bytes => true
  | .bytes s, .frame18 => isFrame18 s
  | .frame fr, .frame => fr.wf
  | _, _ => false

/-- An encoding has the shape the tables give it. -/
def codeShape : Code → Bool
  | .cmd op operands =>
    decide (operands.length = (operandTypes op).length) &&
      (List.zipWith hasType operands (operandTypes op)).all id
  | .wire s => isFrame18 s

end Sys2Proof.Laws

namespace Sys2Proof.Laws.OperandTypes

open Sys2Proof Sys2Proof.Machine

/-- A well-formed operation's encoding has the operand types of its table row. -/
def Statement (i : Instr) : Prop := i.wf = true → codeShape (encode i) = true

theorem reset : Statement .reset := fun _ => rfl
theorem crc8 (bs : Bytes) : Statement (.crc8 bs) := fun _ => rfl
theorem encode (len : Byte) (p : Bytes) : Statement (.encode len p) := fun _ => rfl
theorem decode (bs : Bytes) : Statement (.decode bs) := fun _ => rfl
theorem rxchunk (bs : Bytes) : Statement (.rxchunk bs) := fun _ => rfl
theorem slice : Statement .slice := fun _ => rfl
theorem send (len : Byte) (p : Bytes) : Statement (.send len p) := fun _ => rfl
theorem recv : Statement .recv := fun _ => rfl
theorem readerr : Statement .readerr := fun _ => rfl
theorem reservedE : Statement .reservedE := fun _ => rfl
theorem reservedF : Statement .reservedF := fun _ => rfl

/-- One operand that passes its type check. -/
theorem one_operand {op : BitVec 4} {o : Operand} {t : OperandType} (hop : operandTypes op = [t]) (ho : hasType o t = true) :
    codeShape (.cmd op [o]) = true := by simp [codeShape, hop, ho]

theorem validate (fr : Frame) : Statement (.validate fr) := fun h => one_operand (t := .frame) rfl h
theorem classify (fr : Frame) : Statement (.classify fr) := fun h => one_operand (t := .frame) rfl h
theorem push (fr : Frame) : Statement (.push fr) := fun h => one_operand (t := .frame) rfl h
theorem dispatch (f : Bytes) : Statement (.dispatch f) := fun h => one_operand (t := .frame18) rfl h
theorem txframe (f : Bytes) : Statement (.txframe f) := fun h => one_operand (t := .frame18) rfl h

/-- The wire form of a `Frame` is 18 bytes. -/
theorem wire_shape {fr : Frame} (h : fr.wf = true) : codeShape (.wire (frameBytes fr)) = true := by
  rw [codeShape, isFrame18_iff, frameBytes_length, (frame_wf_iff fr).1 h]

theorem rxCorrupt (fr : Frame) : Statement (.rxCorrupt fr) := fun h => wire_shape (Bool.and_eq_true_iff.1 h).1
theorem rxRetx : Statement .rxRetx := fun _ => (isFrame18_iff _).2 retxFrame_length
theorem rxAck : Statement .rxAck := fun _ => (isFrame18_iff _).2 ackFrame_length
theorem rxData (fr : Frame) : Statement (.rxData fr) := fun h => wire_shape (Bool.and_eq_true_iff.1 h).1

end Sys2Proof.Laws.OperandTypes
end

