-- ==== Sys2Proof/Machine/Assembly.lean ====
section
/-! DEFINITION. The written form of an operation (30_encoding.md R104) and the pseudo-instructions (R105). Notation only: no
step reads it. -/

namespace Sys2Proof.Machine

/-- The 16 hex digits as R104 writes them. -/
def hexDigit (n : Nat) : Char := "0123456789ABCDEF".toList.getD n '0'

/-- A byte is two hex digits. -/
def asmByte (b : Byte) : String := String.ofList [hexDigit (b.toNat / 16), hexDigit (b.toNat % 16)]

/-- A byte sequence in brackets, with spaces. -/
def asmBytes (bs : Bytes) : String := "[" ++ String.intercalate " " (bs.map asmByte) ++ "]"

/-- A Frame operand in curly brackets (character codes 123 and 125). -/
def asmFrame (fr : Frame) : String :=
  String.ofList [Char.ofNat 123] ++ asmByte fr.length ++ ", " ++ asmBytes fr.payload ++ ", " ++ asmByte fr.crc ++
    String.ofList [Char.ofNat 125]

/-- One operation as a line of R104. The reserved codes and the wire-frame classes have no line of their own. -/
def asmText : Instr → Option String
  | .reset => some "RESET"
  | .crc8 bs => some ("CRC8 " ++ asmBytes bs)
  | .encode len p => some ("ENCODE " ++ asmByte len ++ ", " ++ asmBytes p)
  | .decode bs => some ("DECODE " ++ asmBytes bs)
  | .validate fr => some ("VALIDATE " ++ asmFrame fr)
  | .classify fr => some ("CLASSIFY " ++ asmFrame fr)
  | .rxchunk bs => some ("RXCHUNK " ++ asmBytes bs)
  | .slice => some "SLICE"
  | .dispatch f => some ("DISPATCH " ++ asmBytes f)
  | .txframe f => some ("TXFRAME " ++ asmBytes f)
  | .send len p => some ("SEND " ++ asmByte len ++ ", " ++ asmBytes p)
  | .push fr => some ("PUSH " ++ asmFrame fr)
  | .recv => some "RECV"
  | .readerr => some "READERR"
  | .reservedE => none
  | .reservedF => none
  | .rxCorrupt _ => none
  | .rxRetx => none
  | .rxAck => none
  | .rxData _ => none

/-- `RXFRAME L, [p]` (R105); none where ENCODE refuses. -/
def pseudoRxFrame (len : Byte) (p : Bytes) : Option Instr :=
  if encodeAdmits len p then some (.rxchunk (buildFrame len p)) else none

/-- `RXACK` (R105). -/
def pseudoRxAck : Instr := .rxchunk ackFrame

/-- `RXRETX` (R105). -/
def pseudoRxRetx : Instr := .rxchunk retxFrame

/-- A frame with its CRC byte complemented (R105). -/
def complementCrc (f : Bytes) : Bytes :=
  f.take CONFIG.crcInLen ++ (f.drop CONFIG.crcInLen).map (· ^^^ 0xFF#8)

/-- `RXBAD L, [p]` (R105); none where ENCODE refuses. -/
def pseudoRxBad (len : Byte) (p : Bytes) : Option Instr :=
  if encodeAdmits len p then some (.rxchunk (complementCrc (buildFrame len p))) else none

end Sys2Proof.Machine
end

