-- ==== Sys2Proof/Tests/Slice0.lean ====
section
/-! SUPPORT. Tests, their expected values taken from spec/95_test_vectors.md and the tables of spec/30_encoding.md, and for every
obligation with hypotheses a concrete state and operands that meet them. -/

/- One theorem at a time: checked side by side, the kernel's threads would pass the sandbox's memory limit. -/
set_option Elab.async false

namespace Sys2Proof.Tests

open Sys2Proof Sys2Proof.Machine

/-! ### The frames of 95_test_vectors.md, byte by byte -/

def bytesAck : Bytes := [0x01#8, 0x15#8] ++ rep 15 0xFF#8 ++ [0x27#8]
def bytesRetx : Bytes := [0x01#8, 0x19#8] ++ rep 15 0xFF#8 ++ [0x3F#8]
def bytesF1 : Bytes := [0x04#8, 0x05#8, 0x06#8, 0x07#8, 0x08#8] ++ rep 12 0xFF#8 ++ [0xFD#8]
def bytesD : Bytes := [0x05#8, 0x48#8, 0x65#8, 0x6C#8, 0x6C#8, 0x6F#8] ++ rep 11 0xFF#8 ++ [0x24#8]
def bytesDbad : Bytes := [0x05#8, 0x48#8, 0x65#8, 0x6C#8, 0x6C#8, 0x6F#8] ++ rep 11 0xFF#8 ++ [0xDB#8]
def bytesE : Bytes := [0x03#8, 0x41#8, 0x42#8, 0x43#8] ++ rep 13 0xFF#8 ++ [0x1A#8]
def bytesG : Bytes := [0x02#8, 0xAA#8, 0xBB#8] ++ rep 14 0xFF#8 ++ [0x15#8]

def recordAck : Frame := { length := 0x01#8, payload := [0x15#8] ++ rep 15 0xFF#8, crc := 0x27#8 }
def recordRetx : Frame := { length := 0x01#8, payload := [0x19#8] ++ rep 15 0xFF#8, crc := 0x3F#8 }
def recordD : Frame :=
  { length := 0x05#8, payload := [0x48#8, 0x65#8, 0x6C#8, 0x6C#8, 0x6F#8] ++ rep 11 0xFF#8, crc := 0x24#8 }
def recordDbad : Frame := { recordD with crc := 0xDB#8 }
def recordE : Frame := { length := 0x03#8, payload := [0x41#8, 0x42#8, 0x43#8] ++ rep 13 0xFF#8, crc := 0x1A#8 }
def recordG : Frame := { length := 0x02#8, payload := [0xAA#8, 0xBB#8] ++ rep 14 0xFF#8, crc := 0x15#8 }

/-- A record with one payload byte too few. -/
def recordShort : Frame := { recordD with payload := rep 15 0xFF#8 }

/-! ### Small states and their outcomes -/

/-- Reset, with an issuer and the transport's next answers. -/
def start (who : Issuer) (as : List Answer) : State := { State.reset with issuer := who, answers := as }

def app : State := start (.agent .appSend) [.ok]
def chunk : State := start (.agent .transport) [.ok, .ok]
def unit : State := start .block [.ok]
def reader : State := start (.agent .appRecv) []

/-- The next state of an outcome, if it is one. -/
def nextOf (o : Host.Outcome State Fault Refusal) : Option State :=
  match o with
  | .next t => some t
  | .fault _ => none
  | .refused _ => none

theorem nextOf_eq {o : Host.Outcome State Fault Refusal} {t : State} (h : nextOf o = some t) : o = .next t := by
  cases o <;> simp_all [nextOf]

/-- One observed part of an operation's next state. -/
def after {α : Type} (i : Instr) (s : State) (part : State → α) : Option α := (nextOf (exec i s)).map part

/-! ### Well-formedness: an ill-formed term for each check -/

theorem test_ill_formed_frames_are_refused :
    recordShort.wf = false ∧ (Instr.validate recordShort).wf = false ∧ (Instr.classify recordShort).wf = false ∧
    (Instr.push recordShort).wf = false ∧ (Instr.rxCorrupt recordShort).wf = false ∧
    (Instr.rxData recordShort).wf = false := by decide +kernel

theorem test_ill_formed_f18_are_refused :
    (Instr.dispatch (rep 17 0x00#8)).wf = false ∧ (Instr.dispatch (rep 19 0x00#8)).wf = false ∧
    (Instr.txframe (rep 17 0x00#8)).wf = false ∧ (Instr.txframe (rep 19 0x00#8)).wf = false := by decide +kernel

theorem test_frames_of_another_class_are_refused :
    (Instr.rxCorrupt recordD).wf = false ∧ (Instr.rxData recordDbad).wf = false ∧ (Instr.rxData recordAck).wf = false ∧
    (Instr.rxData recordRetx).wf = false := by decide +kernel

/-! ### Decoding: the op codes of 30_encoding.md R101 and the frames of R93, R94 -/

theorem test_decode_commands_without_operands :
    decode (.cmd 0b0000#4 []) = .ok .reset ∧ decode (.cmd 0b0111#4 []) = .ok .slice ∧
    decode (.cmd 0b1100#4 []) = .ok .recv ∧ decode (.cmd 0b1101#4 []) = .ok .readerr ∧
    decode (.cmd 0b1110#4 []) = .ok .reservedE ∧ decode (.cmd 0b1111#4 []) = .ok .reservedF := by
  refine ⟨rfl, rfl, rfl, rfl, rfl, rfl⟩

theorem test_decode_commands_with_bytes :
    decode (.cmd 0b0001#4 [.bytes [0x01#8, 0x07#8]]) = .ok (.crc8 [0x01#8, 0x07#8]) ∧
    decode (.cmd 0b0010#4 [.byte 0x01#8, .bytes [0x15#8]]) = .ok (.encode 0x01#8 [0x15#8]) ∧
    decode (.cmd 0b0011#4 [.bytes [0x0A#8]]) = .ok (.decode [0x0A#8]) ∧
    decode (.cmd 0b0110#4 [.bytes []]) = .ok (.rxchunk []) ∧
    decode (.cmd 0b1000#4 [.bytes bytesD]) = .ok (.dispatch bytesD) ∧
    decode (.cmd 0b1001#4 [.bytes bytesD]) = .ok (.txframe bytesD) ∧
    decode (.cmd 0b1010#4 [.byte 0x11#8, .bytes []]) = .ok (.send 0x11#8 []) := by
  refine ⟨rfl, rfl, rfl, rfl, rfl, rfl, rfl⟩

theorem test_decode_commands_with_a_frame :
    decode (.cmd 0b0100#4 [.frame recordD]) = .ok (.validate recordD) ∧
    decode (.cmd 0b0101#4 [.frame recordD]) = .ok (.classify recordD) ∧
    decode (.cmd 0b1011#4 [.frame recordD]) = .ok (.push recordD) := by refine ⟨rfl, rfl, rfl⟩

/-- The 144-bit values of `Dbad`, `RETX_FRAME`, `ACK_FRAME`, `D`, byte 0 in bits 143:136. -/
theorem test_decode_wire_frames :
    decodeTableWord 144 0x0548656C6C6FFFFFFFFFFFFFFFFFFFFFFFDB = some (.rxCorrupt recordDbad) ∧
    decodeTableWord 144 0x0119FFFFFFFFFFFFFFFFFFFFFFFFFFFFFF3F = some .rxRetx ∧
    decodeTableWord 144 0x0115FFFFFFFFFFFFFFFFFFFFFFFFFFFFFF27 = some .rxAck ∧
    decodeTableWord 144 0x0548656C6C6FFFFFFFFFFFFFFFFFFFFFFF24 = some (.rxData recordD) := by decide +kernel

/-- 30_encoding.md R90, R102: a wire frame of 17 bytes and operands of the wrong number or type are rejected, each by name. -/
theorem test_decode_rejects_by_name :
    decode (.wire (rep 17 0x00#8)) = .error .frameLength ∧ decode (.cmd 0x0#4 [.byte 0x00#8]) = .error .operandTypes ∧
    decode (.cmd 0x8#4 [.bytes (rep 17 0x00#8)]) = .error .operandTypes ∧
    decode (.cmd 0xB#4 [.frame recordShort]) = .error .operandTypes := by refine ⟨rfl, rfl, rfl, rfl⟩

/-! ### Checksum Engine and Frame Codec: 95_test_vectors.md sections 2 to 5 -/

theorem test_crc8_values :
    crc8 [0x31#8, 0x32#8, 0x33#8, 0x34#8, 0x35#8, 0x36#8, 0x37#8, 0x38#8, 0x39#8] = 0xF4#8 ∧ crc8 [0x01#8, 0x07#8] = 0x00#8 ∧
    crc8 ([0x07#8, 0x41#8, 0x42#8, 0x43#8, 0x44#8, 0x45#8, 0x46#8, 0x47#8] ++ rep 9 0xFF#8) = 0x39#8 ∧
    crcRound 0x7F#8 = 0xFE#8 := by decide +kernel

theorem test_crc8_returns_the_checksum :
    after (.crc8 [0x80#8]) app State.returns = some [(.agent .appSend, .byte 0x89#8)] := by decide +kernel

theorem test_encode_least_and_greatest_length :
    after (.encode 0x01#8 []) app State.returns =
      some [(.agent .appSend, .frame18 (0x01#8 :: (rep 16 0xFF#8 ++ [0xF4#8])))] ∧
    after (.encode 0x10#8 (rep 16 0x00#8)) app State.returns =
      some [(.agent .appSend, .frame18 (0x10#8 :: (rep 16 0x00#8 ++ [0xE0#8])))] := by decide +kernel

theorem test_encode_refuses_a_long_payload :
    after (.encode 0x01#8 [0x41#8, 0x42#8, 0x43#8]) app State.returns = some [(.agent .appSend, .status 0x05#8)] := by
  decide +kernel

theorem test_decode_does_not_validate :
    after (.decode bytesDbad) app State.returns = some [(.agent .appSend, .frame recordDbad)] ∧
    after (.decode (rep 17 0x00#8)) app State.returns = some [(.agent .appSend, .status 0x05#8)] := by decide +kernel

theorem test_validate_checks_the_crc_only :
    after (.validate recordDbad) app State.returns = some [(.agent .appSend, .bool false)] ∧
    after (.validate { length := 0xFF#8, payload := rep 16 0xFF#8, crc := 0x1B#8 }) app State.returns =
      some [(.agent .appSend, .bool true)] := by decide +kernel

theorem test_classify_near_control_frames :
    after (.classify { recordAck with crc := 0x26#8 }) app State.returns = some [(.agent .appSend, .frameClass .corrupt)] ∧
    after (.classify { length := 0x01#8, payload := [0x15#8, 0x00#8] ++ rep 14 0xFF#8, crc := 0xB7#8 }) app State.returns =
      some [(.agent .appSend, .frameClass .data)] := by decide +kernel

/-! ### Stream Assembler: 95_test_vectors.md section 6 -/

theorem test_rxchunk_completes_a_split_frame :
    after (.rxchunk (rep 5 0xFF#8 ++ [0x3F#8, 0x04#8]))
      { chunk with rxbuf := [0x01#8, 0x19#8] ++ rep 10 0xFF#8, cache := some bytesF1 } (fun t => (t.rxbuf, t.txlog)) =
      some ([0x04#8], [(bytesF1, .ok)]) := by decide +kernel

theorem test_rxchunk_stops_at_a_failed_write :
    after (.rxchunk (bytesD ++ bytesE)) (start (.agent .transport) [.fail 7]) State.observe =
      some { txlog := [(bytesAck, .fail)], inq := [recordD], cache := none, err := 0x02#8, rxbuf := bytesE,
             returned := [] } := by decide +kernel

theorem test_slice_leaves_the_rest :
    after .slice { unit with rxbuf := bytesAck ++ [0x0A#8] } (fun t => (t.rxbuf, t.returns)) =
      some ([0x0A#8], [(.block, .frame18 bytesAck)]) := by decide +kernel

/-! ### Retransmission Controller: 95_test_vectors.md sections 7 and 8 -/

theorem test_dispatch_corrupt_ack_is_answered_with_retx :
    after (.dispatch ([0x01#8, 0x15#8] ++ rep 15 0xFF#8 ++ [0x26#8])) { unit with cache := some bytesF1 } State.observe =
      some { txlog := [(bytesRetx, .ok)], inq := [], cache := some bytesRetx, err := 0x00#8, rxbuf := [], returned := [] } := by
  decide +kernel

theorem test_dispatch_retx_with_empty_cache :
    after (.dispatch bytesRetx) unit (fun t => (t.txlog, t.err, t.raised)) =
      some ([], 0x01#8, [.emptyCacheOnRetx]) := by decide +kernel

theorem test_txframe_failure_keeps_the_cache :
    after (.txframe bytesE) { start .block [.fail 3] with cache := some bytesF1 }
      (fun t => (t.cache, t.txlog, t.wireOut)) = some (some bytesF1, [(bytesE, .fail)], [0x03#8, 0x41#8, 0x42#8]) := by decide +kernel

theorem test_send_caches_what_it_wrote :
    after (.send 0x04#8 [0x05#8, 0x06#8, 0x07#8, 0x08#8]) app (fun t => (t.cache, t.txlog, t.returns)) =
      some (some bytesF1, [(bytesF1, .ok)], [(.agent .appSend, .status 0x00#8)]) := by decide +kernel

theorem test_send_failure_while_halted :
    after (.send 0x03#8 [0x41#8, 0x42#8, 0x43#8]) { start (.agent .appSend) [.fail 0] with err := 0x02#8 }
      (fun t => (t.cache, t.err, t.returns)) = some (none, 0x02#8, [(.agent .appSend, .status 0x03#8)]) := by decide +kernel

theorem test_rxCorrupt_failed_write :
    after (.rxCorrupt recordDbad) (start .block [.fail 18]) (fun t => (t.cache, t.err, t.raised)) =
      some (none, 0x02#8, [.checksumMismatch, .transportWriteFailure]) := by decide +kernel

theorem test_rxRetx_retransmits_the_cached_bytes :
    after .rxRetx { unit with cache := some bytesF1 } (fun t => (t.txlog, t.cache)) =
      some ([(bytesF1, .ok)], some bytesF1) := by decide +kernel

theorem test_rxAck_changes_nothing :
    after .rxAck { unit with cache := some bytesF1 } id = some { unit with cache := some bytesF1 } := by
  decide +kernel

theorem test_rxData_queues_and_acknowledges :
    after (.rxData recordD) { unit with cache := some bytesF1 } (fun t => (t.inq, t.txlog, t.cache)) =
      some ([recordD], [(bytesAck, .ok)], some bytesAck) := by decide +kernel

theorem test_rxData_overflow_writes_no_ack :
    after (.rxData recordE) { unit with inq := [recordD], params := { defaultParams with inqCap := some 1 } }
      (fun t => (t.inq, t.txlog, t.err)) = some ([recordD], [], 0x08#8) := by decide +kernel

/-! ### Inbound Queue, status, reset: 95_test_vectors.md sections 9 and 10 -/

theorem test_push_appends_at_the_tail :
    after (.push recordE) { unit with inq := [recordD] } State.inq = some [recordD, recordE] := by decide +kernel

theorem test_recv_returns_the_head :
    after .recv { reader with inq := [recordD, recordG] } (fun t => (t.inq, t.returns)) =
      some ([recordG], [(.agent .appRecv, .frame recordD)]) := by decide +kernel

theorem test_second_recv_is_refused :
    after .recv { reader with recvWait := true } (fun t => (t.recvWait, t.returns)) =
      some (true, [(.agent .appRecv, .status 0x05#8)]) := by decide +kernel

theorem test_readerr_does_not_clear :
    after .readerr { app with err := 0x03#8 } (fun t => (t.err, t.returns)) =
      some (0x03#8, [(.agent .appSend, .byte 0x03#8)]) := by decide +kernel

theorem test_reset_clears :
    after .reset { app with err := 0x03#8, rxbuf := bytesE, inq := [recordD], cache := some bytesF1,
                            txlog := [(bytesF1, .ok)] } State.observe =
      some { txlog := [], inq := [], cache := none, err := 0x00#8, rxbuf := [], returned := [] } := by decide +kernel

theorem test_reset_is_refused_while_a_recv_waits :
    after .reset { app with recvWait := true, err := 0x01#8 } (fun t => (t.err, t.returns)) =
      some (0x01#8, [(.agent .appSend, .status 0x05#8)]) := by decide +kernel

theorem test_reserved_codes_are_refused :
    after .reservedE chunk State.returns = some [(.agent .transport, .status 0x05#8)] ∧
    after .reservedF unit State.returns = some [(.block, .status 0x05#8)] := by decide +kernel

/-! ### ATOMICITY = primitive: 20_memory.md R67, 10_state.md R37 -/

/-- Between PUSH's capacity test and its raise another agent's RESET empties INQ: ERR[3] is set all the same. -/
theorem test_capacity_test_and_raise_are_apart :
    (fun t => (t.inq, t.err, t.ingressTask))
      (advanceIngress (advanceSend (advanceIngress
        { unit with params := { rxbufCap := none, inqCap := some 1, atomicity := .primitive }, inq := [recordE],
                    ingressTask := [.pushTest recordD, .transmit bytesAck .action, .drain],
                    sendTask := [.clear .inq] }))) = ([], 0x08#8, []) := by decide +kernel

/-- A TXFRAME of the block's own while ingress is halted is none of INGRESS's steps. -/
theorem test_txframe_while_halted :
    after (.txframe bytesF1) { unit with params := { defaultParams with atomicity := .primitive }, err := 0x02#8 }
      (fun t => (t.ingressTask, t.unitTask, decide (advanceIngress t = t))) =
      some ([], [.transmit bytesF1 .txframe], true) := by decide +kernel

/-! ### Assembler syntax: 30_encoding.md R104 and R105 -/

theorem test_assembler_text :
    asmText (.send 0x04#8 [0x05#8, 0x06#8, 0x07#8, 0x08#8]) = some "SEND 04, [05 06 07 08]" ∧
    asmText (.crc8 []) = some "CRC8 []" := by decide +kernel

theorem test_pseudo_instructions :
    pseudoRxBad 0x05#8 [0x48#8, 0x65#8, 0x6C#8, 0x6C#8, 0x6F#8] = some (.rxchunk bytesDbad) ∧
    pseudoRxFrame 0x03#8 [0x41#8, 0x42#8, 0x43#8] = some (.rxchunk bytesE) ∧
    pseudoRxAck = .rxchunk bytesAck ∧ pseudoRxRetx = .rxchunk bytesRetx := by decide +kernel

/-! ### Hypotheses that are met

For each obligation with hypotheses, a concrete state and operands that meet all of them, one for each of its clauses. -/

/-- The instruction of a decoding, if there is one. -/
def okOf (d : Except DecodeError Instr) : Option Instr :=
  match d with
  | .ok i => some i
  | .error _ => none

theorem okOf_eq {d : Except DecodeError Instr} {i : Instr} (h : okOf d = some i) : d = .ok i := by
  cases d <;> simp_all [okOf]

/-- Greatest payload: 16 bytes. -/
def fullPayload : Bytes := rep 16 0x00#8

/-- Parameters with a finite capacity. -/
def capped (rx inq : Option Nat) : Params := { rxbufCap := rx, inqCap := inq, atomicity := .event }

def primitiveParams : Params := { defaultParams with atomicity := .primitive }

/-- Ingress is halted. -/
def halt (s : State) : State := { s with err := 0x02#8 }

theorem witness_DecodeOfEncodeIsTheInstruction :
    (Instr.rxData recordD).wf = true ∧ (Instr.rxCorrupt recordDbad).wf = true ∧ (Instr.dispatch bytesD).wf = true ∧
    (Instr.push recordShort).wf = false := by decide +kernel

theorem witness_DecodeIsInjectiveAndWellFormed : decode (.wire bytesD) = .ok (.rxData recordD) :=
  okOf_eq (by decide +kernel)

theorem witness_IllegalCommandsAreRefused :
    (isInternal .slice = true ∧ app.issuer = .agent .appSend) ∧
    (chunk.issuer = .agent .transport ∧ app.issuer = .agent .appSend ∧ Agent.appSend ≠ .transport) ∧
    (({ app with inputs := [.issue (.agent .appSend) (.cmd 0x8#4 [.bytes []])] } : State).inputs =
      [.issue (.agent .appSend) (.cmd 0x8#4 [.bytes []])] ∧
    [Operand.bytes []].length = operandCount 0x8#4 ∧ decode (.cmd 0x8#4 [.bytes []]) = .error .operandTypes) :=
  ⟨by decide +kernel, by decide +kernel, rfl, rfl, rfl⟩

theorem witness_StepRunsTheDecodedInstruction :
    ({ app with inputs := [chunkInput [], recvInput] } : State).inputs =
      .issue (.agent .transport) (.cmd 0x6#4 [.bytes []]) :: [recvInput] ∧
    decode (.cmd 0x6#4 [.bytes []]) = .ok (.rxchunk []) := ⟨rfl, rfl⟩

theorem witness_StepAdvancesTheAgent :
    ({ app with inputs := [.advance .ingress] } : State).inputs = [.advance .ingress] ∧
    ({ app with inputs := [.advance .appSend] } : State).inputs = [.advance .appSend] ∧
    ({ app with inputs := [.advance .appRecv] } : State).inputs = [.advance .appRecv] ∧
    ({ app with inputs := [.advance .transport] } : State).inputs = [.advance .transport] ∧
    ({ app with inputs := [.advanceUnit] } : State).inputs = [.advanceUnit] ∧ State.reset.inputs = [] := by
  decide +kernel

theorem witness_PlacedTableWordRunsNext :
    decodeTableWord 8 0xD = some .readerr ∧ decodeTableWord 4 0x0 = some .reset ∧
    decodeTableWord 144 0 = some (.rxData zeroFrame) := by decide +kernel

/-- A state in which a whole data frame is about to arrive. -/
def arriving : State := { State.reset with answers := [.ok], inputs := [chunkInput bytesD] }

theorem witness_StepKeepsTheInvariant :
    arriving.Inv ∧ ((nextOf (step arriving)).map fun t => (t.inq, t.cache)) = some ([recordD], some bytesAck) := by
  refine ⟨⟨?_, ?_, ?_, ?_, ?_, ?_, ?_, ?_, ?_, ?_, ?_, ?_, ?_, ?_, ?_, ?_, ?_⟩, by decide +kernel⟩
  · intro f h; simp [arriving, State.reset] at h
  all_goals decide +kernel

theorem witness_StepKeepsTheParameters :
    ((nextOf (step { arriving with params := capped (some 18) (some 1) })).map (·.params)) =
      some (capped (some 18) (some 1)) := by decide +kernel

theorem witness_ResetClearsTheConnection :
    ({ app with err := 0x0E#8, inq := [recordD] } : State).appTurn ∧ app.recvWait = false ∧ app.params.atomicity = .event ∧
    ({ app with recvWait := true } : State).issuer = .agent .appSend := by decide +kernel

theorem witness_ErrBitsAreSticky :
    ({ app with inputs := [.advance .ingress] } : State).inputs.head? ≠ some resetInput ∧
    app.sendTask.head? ≠ some (.clear .err) ∧
    Instr.rxRetx ≠ .reset ∧ after .rxRetx { unit with err := 0x00#8 } State.err = some 0x01#8 ∧
    after (.rxCorrupt recordDbad) { start .block [.fail 0] with err := 0x01#8 } State.err = some 0x03#8 := by decide +kernel

theorem witness_HaltedIngressHasNoStep :
    (halt { app with inputs := [chunkInput bytesD] }).halted = true ∧
    (∀ p ∈ ([.transmit bytesF1 .send, .cacheWrite bytesF1 .txframe] : List Prim), p.isWrite = true) ∧
    ((nextOf (step (halt { app with inputs := [chunkInput bytesD] }))).map fun t => (t.offered, t.rxbuf)) =
      some ([bytesD], []) ∧
    ((nextOf (step (halt { app with inputs := [.issue (.agent .appSend) (.cmd 0x0#4 [])] }))).map State.halted) =
      some false := by decide +kernel

/-- For Crc8ReturnsTheChecksum, ValidateComparesTheCrc, ClassifyFollowsThePriority, ControlFramesHaveTheirBytes and
ReaderrReturnsErr (also while ingress is halted). -/
theorem witness_appTurn :
    app.appTurn ∧ (halt app).appTurn ∧ recordD.wf = true := by decide +kernel

theorem witness_CrcIsLinearOverXor : bytesD.length = bytesE.length ∧ bytesD ≠ bytesE := by decide +kernel

theorem witness_OneAndThreeBitErrorsAreDetected :
    isFrame18 bytesD = true ∧ validate (frameOf bytesD) = true ∧ validate (frameOf (flipBit 0 bytesD)) = false ∧
    validate (frameOf (flipBit 143 bytesD)) = false ∧
    validate (frameOf (flipBit 143 (flipBit 1 (flipBit 0 bytesD)))) = false := by decide +kernel

/-- 95_test_vectors.md section 2: the first undetected pair is bit 7 of byte 0 with bit 0 of byte 15, the last is (16, 143). -/
theorem witness_TwoBitErrorsEscapeOnlyAtDistance127 :
    validate (frameOf (flipBit 127 (flipBit 0 bytesD))) = true ∧ validate (frameOf (flipBit 143 (flipBit 16 bytesD))) = true ∧
    validate (frameOf (flipBit 142 (flipBit 16 bytesD))) = false ∧
    flipBit 127 (flipBit 0 bytesD) = (bytesD.set 0 0x85#8).set 15 0xFE#8 := by decide +kernel

theorem witness_EncodeReturnsTheFrame :
    (1 ≤ (0x01#8).toNat ∧ (0x01#8).toNat ≤ 16 ∧ ([] : Bytes).length ≤ (0x01#8).toNat) ∧
    (1 ≤ (0x10#8).toNat ∧ (0x10#8).toNat ≤ 16 ∧ fullPayload.length ≤ (0x10#8).toNat) ∧
    (0x00#8).toNat < 1 ∧ 16 < (0x11#8).toNat ∧ 16 < (0x00#8 :: fullPayload).length ∧
    (0x01#8).toNat < [0x41#8, 0x42#8].length := by decide +kernel

theorem witness_EncodedFramesMeetTheEncoderLaws :
    encodeAdmits 0x01#8 [] = true ∧ encodeAdmits 0x10#8 fullPayload = true ∧ encodeAdmits 0x04#8 [0x01#8, 0x02#8] = true ∧
    ([] : Bytes).length + 1 ≤ 1 ∧ ([0x01#8, 0x02#8] : Bytes).length + 1 ≤ 16 := by decide +kernel

theorem witness_DecodeExtractsTheFields :
    bytesD.length = 18 ∧ (rep 17 0x00#8).length ≠ 18 ∧ (rep 19 0x00#8).length ≠ 18 := by decide +kernel

theorem witness_ControlFramesAreExactMatches :
    recordAck.wf = true ∧ validate recordAck = true ∧ classify recordAck = .ack ∧
    recordRetx.wf = true ∧ validate recordRetx = true ∧ classify recordRetx = .retx ∧
    zeroFrame.wf = true ∧ validate zeroFrame = true ∧ classify zeroFrame = .data := by decide +kernel

theorem witness_RxchunkAppendsAndDrains :
    (chunk.chunkTurn ∧ chunk.params.atomicity = .event) ∧
    (20 < (rep 17 0x00#8).length + (rep 4 0x00#8).length ∧ fits (some 20) (17 + 3) = true ∧ fits (some 20) (17 + 4) = false) ∧
    (fits chunk.params.rxbufCap (0 + (rep 17 0x00#8).length) = true ∧ 0 + (rep 17 0x00#8).length < 18) ∧
    ([] ++ (bytesD ++ [0x01#8]) = bytesD ++ [0x01#8] ∧ bytesD.length = 18) ∧
    after (.dispatch bytesD) { chunk with rxbuf := [0x01#8], issuer := .block } State.halted = some false ∧
    after (.dispatch bytesD) { start .block [.fail 0] with rxbuf := [0x01#8] } State.halted = some true := by decide +kernel

theorem witness_SlicesFallAtEvery18thByte :
    ({ chunk with rxbuf := rep 17 0xFF#8 } : State).rxbuf.length < 18 ∧ chunk.offered = [] ∧
    (runInputs ([[], bytesD, bytesE].map chunkInput) { chunk with rxbuf := rep 17 0xFF#8 }).halted = false ∧
    (runInputs ([[], bytesD, bytesE].map chunkInput) { chunk with rxbuf := rep 17 0xFF#8 }).rxbuf.length = 17 := by
  decide +kernel

theorem witness_ChunkBoundariesDoNotMatter :
    chunk.chunkTurn ∧ chunk.params.atomicity = .event ∧ chunk.params.rxbufCap = none ∧
    after (.rxchunk (bytesD ++ [0x03#8])) chunk (fun t => (t.halted, t.rxbuf)) = some (false, [0x03#8]) := by decide +kernel

theorem witness_SliceTakesTheFirst18Bytes :
    ({ unit with rxbuf := bytesD } : State).unitTurn ∧ 18 ≤ ({ unit with rxbuf := bytesD } : State).rxbuf.length := by
  decide +kernel

/-- For AckChangesNothing, DispatchTakesTheClassAction, and with the next two for every statement about a frame action; an
INQ_CAP of 1 takes the first entry, one of 0 does not. -/
theorem witness_unitTurn :
    unit.unitTurn ∧ unit.writerTurn ∧ (halt unit).writerTurn ∧ unit.params.atomicity = .event ∧
    fits (some 1) (unit.inq.length + 1) = true ∧ fits (some 0) (unit.inq.length + 1) = false := by decide +kernel

theorem witness_DispatchTakesTheClassAction :
    classify (frameOf bytesDbad) = .corrupt ∧ bytesDbad.length = 18 ∧ classify (frameOf bytesRetx) = .retx ∧
    bytesRetx.length = 18 ∧ classify (frameOf bytesAck) = .ack ∧ bytesAck.length = 18 ∧
    classify (frameOf bytesD) = .data ∧ bytesD.length = 18 ∧ unit.cache = none := by decide +kernel

/-- For CorruptFrameIsAnsweredWithRetx, RetxRetransmitsTheCache, DataFrameIsQueuedThenAcknowledged, TxframeWritesThenCaches. -/
theorem witness_frame_actions :
    (recordDbad.wf = true ∧ classify recordDbad = .corrupt) ∧ (recordD.wf = true ∧ classify recordD = .data) ∧
    ({ unit with cache := some bytesF1 } : State).cache = some bytesF1 ∧ unit.answer = .ok ∧
    (start .block [.fail 18]).answer = .fail 18 ∧ bytesF1.length = 18 := by decide +kernel

theorem witness_SendTransmitsAndReturnsAStatus :
    app.appTurn ∧ app.params.atomicity = .event ∧ encodeAdmits 0x04#8 [0x05#8] = true ∧ app.answer = .ok ∧
    (start (.agent .appSend) [.fail 0]).answer = .fail 0 ∧ encodeAdmits 0x00#8 [0x41#8] = false := by decide +kernel

theorem witness_DispatchDependsOnFrameAndCacheOnly :
    unit.unitTurn ∧ ({ unit with err := 0x01#8, inq := [recordD], draws := 9 } : State).unitTurn ∧ isFrame18 bytesE = true ∧
    unit.answer = ({ unit with err := 0x01#8, inq := [recordD], draws := 9 } : State).answer ∧ unit.params.inqCap = none ∧
    after (.dispatch bytesE) { unit with err := 0x01#8, inq := [recordD], draws := 9 } State.inq =
      some [recordD, recordE] := by decide +kernel

theorem witness_CacheFollowsTheWrites :
    Instr.rxchunk (bytesD ++ bytesE) ≠ .reset ∧
    after (.rxchunk (bytesD ++ bytesE)) (start (.agent .transport) [.ok, .fail 0]) (fun t => (t.txlog, t.cache)) =
      some ([(bytesAck, .ok), (bytesAck, .fail)], some bytesAck) := by decide +kernel

theorem witness_FailedActionWriteHaltsIngress :
    (start (.agent .transport) [.fail 18]).chunkTurn ∧ (start (.agent .transport) [.fail 18]).answer = .fail 18 ∧
    fits (none : Option Nat) (0 + (bytesDbad ++ bytesE).length) = true ∧ bytesDbad.length = 18 ∧
    classify (frameOf bytesDbad) = .corrupt ∧
    (classify (frameOf bytesRetx) = .retx ∧ (some bytesF1 : Option Bytes) ≠ none) ∧
    (classify (frameOf bytesD) = .data ∧ fits (some 1) (([] : List Frame).length + 1) = true) := by decide +kernel

theorem witness_DispatchRaisesTheseCausesOnly :
    after (.dispatch bytesDbad) (start .block [.fail 0]) State.raised = some [.checksumMismatch, .transportWriteFailure] ∧
    after (.dispatch bytesD) { unit with params := capped none (some 0) } State.raised = some [.capacityOverflow] := by
  decide +kernel

theorem witness_PushAppendsToTheQueue :
    unit.unitTurn ∧ recordE.wf = true ∧ classify recordE = .data ∧ fits (some 2) ([recordD].length + 1) = true ∧
    1 < [recordD].length + 1 := by decide +kernel

theorem witness_RecvReturnsTheOldestOrSuspends :
    (reader.issuer = .agent .appRecv ∧ reader.recvWait = false ∧ reader.inq = []) ∧
    ({ reader with inq := [recordD] } : State).inq = recordD :: [] ∧
    ({ reader with recvWait := true } : State).recvWait = true ∧
    ({ reader with recvWait := true, inq := [recordD], inputs := [.advance .appRecv] } : State).inputs =
      .advance .appRecv :: [] := by decide +kernel

theorem witness_QueueIsFirstInFirstOut :
    (∀ fr ∈ [recordD, recordG], isDataFrame fr = true) ∧ unit.halted = false ∧ unit.ingressTask = [] ∧
    fits (some 3) ([recordE].length + [recordD, recordG].length) = true ∧ unit.recvWait = false := by decide +kernel

/-- A fair schedule: RECV's resume step and INGRESS take turns. -/
def turns (n : Nat) : Input := if n % 2 = 0 then .advance .appRecv else .advance .ingress

theorem turns_fair (s : State) : WeaklyFair turns s := by
  refine ⟨fun n _ => ⟨2 * n, by omega, ?_⟩, fun n _ => ⟨2 * n + 1, by omega, ?_⟩⟩
  · simp [turns]
  · have : (2 * n + 1) % 2 = 1 := by omega
    simp [turns, this]

/-- RECV is suspended and an entry has arrived. -/
def waiting : State := { reader with recvWait := true, inq := [recordD] }

theorem witness_SuspendedRecvIsEventuallyServed :
    WeaklyFair turns waiting ∧ (runSchedule turns waiting 0).recvWait = true ∧
    (runSchedule turns waiting 0).inq = recordD :: [] ∧
    (∀ p ∈ (runSchedule turns waiting 0).ingressTask ++ (runSchedule turns waiting 0).sendTask, p ≠ .clear .inq) :=
  ⟨turns_fair _, rfl, rfl, by decide +kernel⟩

/-- A chunk is pending on the inbound wire. -/
def pending : State := { chunk with offered := [bytesD] }

/-- The state after INGRESS has taken it. -/
def taken : State := stepOn (.advance .ingress) pending

theorem pending_run (m : Nat) : runSchedule turns pending (m + 2) = taken := by
  induction m with
  | zero =>
    show stepOn (turns 1) (stepOn (turns 0) pending) = taken
    decide +kernel
  | succ m ih =>
    show stepOn (turns (m + 2)) (runSchedule turns pending (m + 2)) = taken
    rw [ih]
    unfold turns
    split <;> decide +kernel

theorem witness_PendingChunkIsEventuallyTaken :
    WeaklyFair turns pending ∧ (runSchedule turns pending 0).params.atomicity = .event ∧
    (runSchedule turns pending 0).ingressTask = [] ∧ (runSchedule turns pending 0).offered = bytesD :: [] ∧
    (∀ m, 0 ≤ m → (runSchedule turns pending m).halted = false) := by
  refine ⟨turns_fair _, rfl, rfl, rfl, fun m _ => ?_⟩
  match m with
  | 0 => decide +kernel
  | 1 => decide +kernel
  | m + 2 => rw [pending_run]; decide +kernel

theorem witness_PureOperationsHaveNoSideEffect :
    isPure (.crc8 []) = true ∧ isPure .readerr = true ∧
    after (.crc8 []) unit State.returns = some [(.block, .byte 0x00#8)] := by decide +kernel

theorem witness_RefusedOperationsChangeNothing :
    after (.send 0x11#8 [0x41#8]) { app with cache := some bytesF1 } State.returns =
      some ([] ++ [(.agent .appSend, .status 0x05#8)]) := by decide +kernel

/-- RETX_FRAME is cached and the transport accepts two writes. -/
def livelock : State := { chunk with cache := some retxFrame }

theorem witness_RetxLivelockNeverEnds :
    livelock.halted = false ∧ livelock.rxbuf = [] ∧ livelock.cache = some retxFrame ∧ livelock.params.rxbufCap = none ∧
    livelock.answers = List.replicate 2 .ok ++ [] := by decide +kernel

theorem witness_EncodedDataIsDeliveredAndAcknowledged :
    encodeAdmits 0x01#8 [0x16#8] = true ∧ buildFrame 0x01#8 [0x16#8] ≠ ackFrame ∧ buildFrame 0x01#8 [0x16#8] ≠ retxFrame ∧
    chunk.params = defaultParams ∧ chunk.inq = [] ∧ chunk.answer = .ok := by decide +kernel

theorem witness_RetransmissionIsByteForByte :
    encodeAdmits 0x04#8 [0x05#8, 0x06#8, 0x07#8, 0x08#8] = true ∧ app.sendTask = [] ∧ app.params = defaultParams ∧
    chunk.answers = .ok :: .ok :: [] ∧ (start (.agent .appSend) [.ok, .ok, .ok]).answers = .ok :: .ok :: .ok :: [] ∧
    isFrame18 bytesD = true ∧ classify (frameOf bytesD) = .data := by decide +kernel

/-- APP_SEND, TRANSPORT and the block, under ATOMICITY = primitive. -/
def appP : State := { app with params := primitiveParams }
def chunkP : State := { chunk with params := primitiveParams }
def unitP : State := { unit with params := primitiveParams }

theorem witness_PrimitivesWithoutInterleavingMatchTheEvent :
    chunkP.params.atomicity = .primitive ∧ chunkP.tasks = [] ∧
    after (.rxchunk bytesD) chunkP State.ingressTask = some [.rxTest bytesD] ∧
    after (.rxchunk bytesD) (chunkP.withAtomicity .event) State.inq = some [recordD] := by decide +kernel

theorem witness_PrimitiveOperationsBeginInTheirTask :
    appP.appTurn ∧ appP.recvWait = false ∧ chunkP.chunkTurn ∧ unitP.unitTurn ∧ unitP.writerTurn ∧
    unitP.params.atomicity = .primitive ∧ appP.params.atomicity = .primitive := by decide +kernel

theorem witness_PrimitivesKeepTheOrderOfEffects :
    unitP.halted = false ∧ unitP.answer = .ok ∧ classify (frameOf bytesD) = .data ∧
    ({ unitP with ingressTask := [.dispatch bytesD, .drain] } : State).ingressTask = .dispatch bytesD :: [.drain] ∧
    ({ unitP with ingressTask := [.qPush recordD] } : State).ingressTask = .qPush recordD :: [] ∧
    ({ appP with sendTask := [.transmit bytesF1 .send] } : State).sendTask = .transmit bytesF1 .send :: [] ∧
    ({ unitP with unitTask := [.cacheWrite bytesF1 .txframe] } : State).unitTask = .cacheWrite bytesF1 .txframe :: [] ∧
    (fits (some 1) (unitP.inq.length + 1) = true ∧ fits (some 0) (unitP.inq.length + 1) = false) := by decide +kernel

theorem witness_RecvMayOvertakeTheAck :
    isFrame18 bytesD = true ∧ classify (frameOf bytesD) = .data ∧ defaultParams.atomicity = .event ∧
    (∀ x ∈ [chunkInput bytesD, recvInput], isPlainInput x = true) ∧ isPlainInput resetInput = false ∧
    (runInputs [chunkInput bytesD, recvInput] { State.reset with params := defaultParams, answers := [.ok] }).received =
      [recordD] := by decide +kernel

theorem witness_OperationsGoByTheirIssuer :
    (rep 17 0x00#8).length < 18 ∧ classify recordAck ≠ .data ∧ isPure (.validate recordD) = true ∧
    reader.issuer = .agent .appRecv ∧ chunk.issuer = .agent .transport ∧
    (start (.agent .ingress) []).issuer = .agent .ingress ∧ app.issuer ≠ .agent .appRecv ∧
    isWireFrame .rxRetx = true ∧ (rep 19 0x00#8).length ≠ 18 ∧ isPure (.crc8 []) = true ∧ Instr.crc8 [] ≠ .readerr ∧
    unit.writerTurn ∧ classify recordD ≠ .corrupt ∧ unit.issuer ≠ .agent .appSend ∧
    [Operand.byte 0x00#8].length ≠ operandCount 0x0#4 ∧ ([] : List Operand).length ≠ operandCount 0xA#4 ∧
    ({ unit with inputs := [.issue .block (.wire (rep 17 0x00#8))] } : State).inputs =
      .issue .block (.wire (rep 17 0x00#8)) :: [] := by decide +kernel

theorem witness_ChunksWaitAndOtherOperationsDoNotStart :
    ((halt chunk).issuer = .agent .transport ∧ (halt chunk).halted = true) ∧
    ({ chunkP with ingressTask := [.drain] } : State).ingressTask ≠ [] ∧ pending.offered ≠ [] ∧
    (pending.ingressTask = [] ∧ ({ pending with offered := [bytesD, []] } : State).offered = bytesD :: [[]] ∧
      pending.halted = false) ∧
    (({ appP with sendTask := [.clear .txlog] } : State).sendTask ≠ [] ∧ appP.issuer = .agent .appSend ∧
      isAppSend (.send 0x04#8 [0x05#8]) = true ∧ admissible appP (.send 0x04#8 [0x05#8]) = true) ∧
    ((halt unit).issuer = .block ∧ (halt unit).halted = true ∧ isIngress (.dispatch bytesD) = true ∧
      admissible (halt unit) (.dispatch bytesD) = true) ∧
    (({ unitP with unitTask := [.cacheWrite bytesD .txframe] } : State).unitTask ≠ [] ∧
      admissible unitP (.txframe bytesD) = true ∧ isPure (.crc8 []) = true) := by decide +kernel

end Sys2Proof.Tests
end

section
/-! PROOF. What one operation and one step can do: the case analyses every invariant of the state goes through. -/

namespace Sys2Proof.Machine

/-! ### Starting an operation, by the atomicity -/

theorem startIngress_ind {P : State → Prop} {s : State} {ps : List Prim} {whole : State → State}
    (he : s.params.atomicity = .event → P (whole s))
    (hp : s.params.atomicity = .primitive → P { s with ingressTask := ps }) : P (s.startIngress ps whole) := by
  cases h : s.params.atomicity with
  | event => rw [startIngress_event h]; exact he h
  | primitive => rw [startIngress_primitive h]; exact hp h

theorem startSend_ind {P : State → Prop} {s : State} {ps : List Prim} {whole : State → State}
    (he : s.params.atomicity = .event → P (whole s))
    (hp : s.params.atomicity = .primitive → P { s with sendTask := ps }) : P (s.startSend ps whole) := by
  cases h : s.params.atomicity with
  | event => rw [startSend_event h]; exact he h
  | primitive => rw [startSend_primitive h]; exact hp h

theorem startUnit_ind {P : State → Prop} {s : State} {ps : List Prim} {whole : State → State}
    (he : s.params.atomicity = .event → P (whole s))
    (hp : s.params.atomicity = .primitive → P { s with unitTask := ps }) : P (s.startUnit ps whole) := by
  cases h : s.params.atomicity with
  | event => rw [startUnit_event h]; exact he h
  | primitive => rw [startUnit_primitive h]; exact hp h

/-! ### The shapes of an effect -/

/-- t is s but for values returned, chunks offered, the input and its issuer, and at most the head of INQ. -/
structure Quiet (s t : State) : Prop where
  params : t.params = s.params
  cache : t.cache = s.cache
  rxbuf : t.rxbuf = s.rxbuf
  err : t.err = s.err
  txlog : t.txlog = s.txlog
  raised : t.raised = s.raised
  ingressTask : t.ingressTask = s.ingressTask
  sendTask : t.sendTask = s.sendTask
  unitTask : t.unitTask = s.unitTask
  inq : t.inq = s.inq ∨ t.inq = s.inq.tail

theorem Quiet.unchanged (s : State) : Quiet s s := ⟨rfl, rfl, rfl, rfl, rfl, rfl, rfl, rfl, rfl, .inl rfl⟩

theorem Quiet.popInput (s : State) : Quiet s s.popInput := ⟨rfl, rfl, rfl, rfl, rfl, rfl, rfl, rfl, rfl, .inl rfl⟩

theorem Quiet.issuedBy (s : State) (who : Issuer) : Quiet s (s.issuedBy who) :=
  ⟨rfl, rfl, rfl, rfl, rfl, rfl, rfl, rfl, rfl, .inl rfl⟩

/-- Nothing is taken off the inbound wire; at most one newly offered chunk joins it (60_exceptions.md R271). -/
def KeepsOffered (s t : State) : Prop := t.offered = s.offered ∨ ∃ bs, t.offered = s.offered ++ [bs]

/-- The operations of INGRESS's activity, with the primitives each starts with and its meaning as one step. -/
inductive IngressOp : List Prim → (State → State) → Prop
  | chunk (bs : Bytes) : IngressOp [.rxTest bs] (rxchunk bs)
  | dispatch {f : Bytes} (hf : isFrame18 f = true) : IngressOp [.dispatch f] (dispatch f)
  | push {fr : Frame} (hd : isDataFrame fr = true) : IngressOp [.pushTest fr] (pushFrame fr)
  | corrupt : IngressOp [.raise .checksumMismatch none, .transmit retxFrame .action] actCorrupt
  | retx : IngressOp [.cacheRead] actRetx
  | data {fr : Frame} (hd : isDataFrame fr = true) : IngressOp [.pushTest fr, .transmit ackFrame .action] (actData fr)

/-- Everything an operation other than a RESET that runs can do. -/
inductive Effect (s : State) : State → Prop
  | quiet {t : State} (hq : Quiet s t) (ho : KeepsOffered s t) : Effect s t
  | slices (hh : s.halted = false) (hi : s.ingressTask = []) : Effect s (s.rxTake.ret (.frame18 s.rxHead))
  | ingress {ps : List Prim} {whole : State → State} (hh : s.halted = false) (hi : s.ingressTask = [])
      (op : IngressOp ps whole) : Effect s (s.startIngress ps whole)
  | sends {f : Bytes} (hf : isFrame18 f = true) : Effect s (s.startSend [.transmit f .send] (sendWrite f))
  | writes {f : Bytes} (hf : isFrame18 f = true) :
      Effect s (s.startUnit [.transmit f .txframe] fun x => (txframe f x).ret (.written x.txResult))

/-- A RESET that runs (70_reset_and_hazards.md R300). -/
def State.startReset (s : State) : State := s.startSend (resetElements.map Prim.clear) State.clearAll

theorem Effect.unchanged (s : State) : Effect s s := .quiet (.unchanged s) (.inl rfl)

theorem Effect.returns (s : State) (r : Result) : Effect s (s.ret r) :=
  .quiet ⟨rfl, rfl, rfl, rfl, rfl, rfl, rfl, rfl, rfl, .inl rfl⟩ (.inl rfl)

theorem Effect.offers (s : State) (bs : Bytes) : Effect s (leaveOffered bs s) :=
  .quiet ⟨rfl, rfl, rfl, rfl, rfl, rfl, rfl, rfl, rfl, .inl rfl⟩ (.inr ⟨bs, rfl⟩)

theorem Effect.receives (s : State) : Effect s (recvIssue s) := by
  unfold recvIssue
  split
  · exact .quiet ⟨rfl, rfl, rfl, rfl, rfl, rfl, rfl, rfl, rfl, .inr rfl⟩ (.inl rfl)
  · exact .quiet ⟨rfl, rfl, rfl, rfl, rfl, rfl, rfl, rfl, rfl, .inl rfl⟩ (.inl rfl)

/-- An admission refuses, waits, or runs an operation that is permitted and ready. -/
theorem attempt_effect {s : State} {g : OpGroup} {adm : Bool} {wait run : State → State} (hw : Effect s (wait s))
    (hr : adm = true → g.ready s = true → Effect s (run s)) : Effect s (s.attempt g adm wait run) := by
  obtain ⟨-, e⟩ | ⟨-, -, e⟩ | ⟨ha, hg, e⟩ := attempt_cases s g adm wait run <;> rw [e]
  · exact .returns s _
  · exact hw
  · exact hr (Bool.and_eq_true_iff.1 ha).2 hg

/-- The frame-level operations of INGRESS's activity start only while it is between operations and not halted. -/
theorem attempt_ingress {s : State} {adm : Bool} {ps : List Prim} {whole : State → State}
    (op : adm = true → IngressOp ps whole) :
    Effect s (s.attempt .ingress adm id fun st => st.startIngress ps whole) :=
  attempt_effect (.unchanged s) fun ha hg =>
    let ⟨hh, hi⟩ := (ingress_ready_iff s).1 hg
    .ingress hh hi (op ha)

theorem buildFrame_isFrame18 {len : Byte} {p : Bytes} (h : encodeAdmits len p = true) :
    isFrame18 (buildFrame len p) = true := by
  obtain ⟨-, -, hp, -⟩ := (encodeAdmits_iff len p).1 h
  exact (isFrame18_iff _).2 (buildFrame_length len p hp)

theorem execReset_cases {s t : State} (h : execReset s = .next t) :
    Effect s t ∨ (s.issuer = .agent .appSend ∧ t = s.startReset) := by
  cases h
  obtain ⟨-, e⟩ | ⟨-, -, e⟩ | ⟨ha, -, e⟩ :=
    attempt_cases s .app (!s.recvWait) id fun st => st.startSend (resetElements.map Prim.clear) State.clearAll
  · exact .inl (e ▸ .returns s _)
  · exact .inl (e ▸ .unchanged s)
  · exact .inr ⟨by simpa [OpGroup.permits] using (Bool.and_eq_true_iff.1 ha).1, e⟩

/-- An operation has one of the effects, or it is APP_SEND's RESET and it runs. -/
theorem exec_cases {i : Instr} {s t : State} (h : exec i s = .next t) :
    Effect s t ∨ (i = .reset ∧ s.issuer = .agent .appSend ∧ t = s.startReset) := by
  cases i with
  | reset => exact (execReset_cases h).imp id fun r => ⟨rfl, r⟩
  | rxchunk bs =>
    cases h
    refine .inl (attempt_effect (.offers s bs) fun _ hg => ?_)
    obtain ⟨hh, hi, -⟩ := (chunk_ready_iff s).1 hg
    exact .ingress hh hi (.chunk bs)
  | slice =>
    cases h
    refine .inl (attempt_effect (.unchanged s) fun _ hg => ?_)
    obtain ⟨hh, hi⟩ := (ingress_ready_iff s).1 hg
    exact .slices hh hi
  | dispatch f => cases h; exact .inl (attempt_ingress .dispatch)
  | push fr => cases h; exact .inl (attempt_ingress .push)
  | rxCorrupt fr => cases h; exact .inl (attempt_ingress fun _ => .corrupt)
  | rxRetx => cases h; exact .inl (attempt_ingress fun _ => .retx)
  | rxData fr => cases h; exact .inl (attempt_ingress .data)
  | rxAck => cases h; exact .inl (attempt_effect (.unchanged s) fun _ _ => .unchanged s)
  | txframe f => cases h; exact .inl (attempt_effect (.unchanged s) fun ha _ => .writes ha)
  | send len p => cases h; exact .inl (attempt_effect (.unchanged s) fun ha _ => .sends (buildFrame_isFrame18 ha))
  | recv => cases h; exact .inl (attempt_effect (.unchanged s) fun _ _ => .receives s)
  | reservedE => cases h; exact .inl (.returns s _)
  | reservedF => cases h; exact .inl (.returns s _)
  | crc8 _ | encode _ _ | decode _ | validate _ | classify _ | readerr =>
    cases h; exact .inl (attempt_effect (.unchanged s) fun _ _ => .returns s _)

/-! ### One step -/

theorem takeFrame18_eq_ok {f : Bytes} {i j : Instr} :
    takeFrame18 f i = .ok j ↔ isFrame18 f = true ∧ i = j := by
  unfold takeFrame18; split <;> simp_all

theorem takeFrame_eq_ok {fr : Frame} {i j : Instr} : takeFrame fr i = .ok j ↔ fr.wf = true ∧ i = j := by
  unfold takeFrame; split <;> simp_all

/-- Only op 0x0 without operands decodes to RESET (30_encoding.md R101). -/
theorem decode_reset {c : Code} (h : decode c = .ok .reset) : c = .cmd 0x0#4 [] := by
  cases c with
  | wire s => simp only [decode, decodeWire] at h; grind
  | cmd op operands =>
    simp only [decode, decodeCmd] at h
    split at h
    case h_1 e => rw [BitVec.eq_of_toNat_eq (y := 0x0#4) e]
    all_goals simp [takeFrame_eq_ok, takeFrame18_eq_ok] at h

/-- Everything a step can do. -/
inductive StepEffect (s : State) : State → Prop
  | quiet {t : State} (hq : Quiet s t) (ho : KeepsOffered s t) : StepEffect s t
  | runs (who : Issuer) {t : State} (e : Effect (s.issuedBy who) t) : StepEffect s t
  | resets (hr : s.inputs.head? = some resetInput) : StepEffect s (s.issuedBy (.agent .appSend)).startReset
  | ingress : StepEffect s (advanceIngress s.popInput)
  | send : StepEffect s (advanceSend s.popInput)
  | unit : StepEffect s (advanceUnit s.popInput)

/-- RECV's resume takes at most the head of INQ (44_queue.md R241). -/
theorem recvResume_effect (s : State) : StepEffect s (recvResume s.popInput) := by
  unfold recvResume
  split
  · exact .quiet ⟨rfl, rfl, rfl, rfl, rfl, rfl, rfl, rfl, rfl, .inr rfl⟩ (.inl rfl)
  · exact .quiet (.popInput s) (.inl rfl)

theorem step_none {s : State} (h : s.inputs.head? = none) : step s = .next s := by
  simp only [step, nextInput, h]; rfl

theorem step_issue {s : State} {who : Issuer} {c : Code} {i : Instr} (h : s.inputs.head? = some (.issue who c))
    (hd : decode c = .ok i) : step s = exec i (s.issuedBy who) := by
  simp only [step, nextInput, h, hd]

theorem step_reject {s : State} {who : Issuer} {c : Code} {e : DecodeError}
    (h : s.inputs.head? = some (.issue who c)) (hd : decode c = .error e) :
    step s = .next (s.issuedBy who).refuse := by
  simp only [step, nextInput, h, hd]; rfl

theorem step_advance {s : State} {a : Agent} (h : s.inputs.head? = some (.advance a)) :
    step s = advanceAgent a s.popInput := by
  simp only [step, nextInput, h]

theorem step_advanceUnit {s : State} (h : s.inputs.head? = some .advanceUnit) :
    step s = .next (advanceUnit s.popInput) := by
  simp only [step, nextInput, h]; rfl

theorem step_cases {s t : State} (h : step s = .next t) : StepEffect s t := by
  cases hi : s.inputs.head? with
  | none =>
    rw [step_none hi] at h; cases h
    exact .quiet (.unchanged s) (.inl rfl)
  | some x =>
    cases x with
    | issue who c =>
      cases hd : decode c with
      | ok i =>
        rw [step_issue hi hd] at h
        obtain e | ⟨rfl, hw, rfl⟩ := exec_cases h
        · exact .runs who e
        · cases hw
          cases decode_reset hd
          exact .resets hi
      | error e =>
        rw [step_reject hi hd] at h; cases h
        exact .runs who (.returns _ _)
    | advance a =>
      rw [step_advance hi] at h
      cases a <;> cases h
      · exact .ingress
      · exact .send
      · exact recvResume_effect s
      · exact .quiet (.popInput s) (.inl rfl)
    | advanceUnit =>
      rw [step_advanceUnit hi] at h; cases h
      exact .unit

end Sys2Proof.Machine
end

section
/-! PROOF. The reset values, and what a step does with its next input. -/

namespace Sys2Proof.Machine

/-- Settles O9: every value by evaluation. -/
theorem resetStateHasTheResetValues : Obligations.ResetStateHasTheResetValues :=
  ⟨rfl, rfl, rfl, rfl, rfl, rfl, rfl⟩

/-- The next input is used up and nothing else changes. -/
theorem popInput_eq {s : State} {x : Input} {rest : List Input} (h : s.inputs = x :: rest) :
    s.popInput = { s with inputs := rest } := by
  simp only [State.popInput, h, List.tail_cons]

theorem head?_inputs {s : State} {x : Input} {rest : List Input} (h : s.inputs = x :: rest) :
    s.inputs.head? = some x := by
  rw [h, List.head?_cons]

/-- Settles O5: the step on an issued command, by the decoder's answer. -/
theorem stepRunsTheDecodedInstruction : Obligations.StepRunsTheDecodedInstruction := by
  intro s who c rest i h hd
  rw [step_issue (head?_inputs h) hd, State.issuedBy, popInput_eq h]

/-- Settles O6: the step on an advance input, one agent after the other. -/
theorem stepAdvancesTheAgent : Obligations.StepAdvancesTheAgent := by
  refine ⟨?_, ?_, ?_, ?_, ?_, fun s h => step_none (by rw [h, List.head?_nil])⟩
  case refine_4 => intro s rest h; rw [step_advanceUnit (head?_inputs h), popInput_eq h]
  all_goals intro s rest h; rw [step_advance (head?_inputs h), popInput_eq h]; rfl

end Sys2Proof.Machine
end

section
/-! PROOF. Every INGRESS operation, run as one step, is a chain of a few moves, so what each move keeps the operation keeps. -/

namespace Sys2Proof.Machine

/-- A move of INGRESS's activity, with what the tests before it have made sure of. A write is TXFRAME whole (R205). -/
inductive IngressMove (s : State) : State → Prop
  | raise (c : Cause) {bit : Option ErrBit} (h : (Prim.raise c bit).wf s.params = true) : IngressMove s (s.raise c bit)
  | append {bs : Bytes} (h : s.rxbufFits bs = true) : IngressMove s (s.rxAppend bs)
  | take : IngressMove s s.rxTake
  | push {fr : Frame} (hd : isDataFrame fr = true) (h : s.inqFits = true) : IngressMove s (s.qPush fr)
  | write {f : Bytes} (h : isFrame18 f = true ∨ s.cache = some f) : IngressMove s (txframe f s)

abbrev IngressMoves : State → State → Prop := Relation.ReflTransGen IngressMove

/-- What is reflexive and transitive and every move has, every chain of moves has. -/
theorem IngressMoves.has {R : State → State → Prop} (refl : ∀ s, R s s) (trans : ∀ {s t u}, R s t → R t u → R s u)
    (move : ∀ {s t}, IngressMove s t → R s t) {s t : State} (h : IngressMoves s t) : R s t := by
  induction h with
  | refl => exact refl _
  | tail _ m ih => exact trans ih (move m)

theorem cap_isSome_of_not_fits {cap : Option Nat} {n : Nat} (h : fits cap n = false) : cap.isSome = true := by
  cases cap with
  | none => simp [fits] at h
  | some _ => rfl

/-- A full RXBUF has a capacity, so its overflow may be raised (10_state.md R36). -/
theorem rxbufOverflow_wf {s : State} {bs : Bytes} (h : s.rxbufFits bs = false) :
    (Prim.raise .capacityOverflow (some .rxbufOverflow)).wf s.params = true := by
  simp [Prim.wf, cap_isSome_of_not_fits h]

/-- A full INQ has a capacity, so its overflow may be raised (10_state.md R36). -/
theorem inqOverflow_wf {s : State} (h : s.inqFits = false) :
    (Prim.raise .capacityOverflow (some .inqOverflow)).wf s.params = true := by
  simp [Prim.wf, cap_isSome_of_not_fits h]

theorem actionWrite_moves {f : Bytes} {s : State} (h : isFrame18 f = true ∨ s.cache = some f) :
    IngressMoves s (actionWrite f s) := by
  have w : IngressMoves s (txframe f s) := .single (.write h)
  unfold actionWrite
  split
  · exact w
  · exact w.tail (.raise _ rfl)

theorem pushFrame_moves {fr : Frame} (hd : isDataFrame fr = true) (s : State) : IngressMoves s (pushFrame fr s) := by
  unfold pushFrame
  split
  case isTrue h => exact .single (.push hd h)
  case isFalse h => exact .single (.raise _ (inqOverflow_wf (by simpa using h)))

theorem actCorrupt_moves (s : State) : IngressMoves s (actCorrupt s) :=
  .head (.raise _ rfl) (actionWrite_moves (.inl ((isFrame18_iff _).2 retxFrame_length)))

theorem actRetx_moves (s : State) : IngressMoves s (actRetx s) := by
  unfold actRetx
  split
  case h_1 => exact .single (.raise _ rfl)
  case h_2 c h => exact actionWrite_moves (.inr h)

theorem actData_moves {fr : Frame} (hd : isDataFrame fr = true) (s : State) : IngressMoves s (actData fr s) := by
  unfold actData
  split
  · exact (pushFrame_moves hd s).trans (actionWrite_moves (.inl ((isFrame18_iff _).2 ackFrame_length)))
  · exact pushFrame_moves hd s

/-- The fields of 18 bytes classified as DATA are a queue entry. -/
theorem isDataFrame_frameOf {f : Bytes} (hf : isFrame18 f = true) (hc : classify (frameOf f) = .data) :
    isDataFrame (frameOf f) = true := by
  simp only [isDataFrame, hc, frameOf_wf f ((isFrame18_iff f).1 hf)]; rfl

theorem dispatch_moves {f : Bytes} (hf : isFrame18 f = true) (s : State) : IngressMoves s (dispatch f s) := by
  unfold dispatch
  split
  case h_1 => exact actCorrupt_moves s
  case h_2 => exact actRetx_moves s
  case h_3 => exact .refl
  case h_4 hc => exact actData_moves (isDataFrame_frameOf hf hc) s

theorem rxHead_isFrame18 {s : State} (h : s.rxReady = true) : isFrame18 s.rxHead = true := by
  have h18 := (rxReady_iff s).1 h
  simp [State.rxHead, h18]

theorem rxReady_of_canSlice {s : State} (h : s.canSlice = true) : s.rxReady = true := (Bool.and_eq_true_iff.1 h).1

theorem drain_moves (n : Nat) (s : State) : IngressMoves s (drain n s) := by
  induction n generalizing s with
  | zero => exact .refl
  | succ n ih =>
    cases h : s.canSlice with
    | false => rw [drain_stops h]
    | true =>
      rw [drain_slices h]
      exact .head .take ((dispatch_moves (rxHead_isFrame18 (rxReady_of_canSlice h)) _).trans (ih _))

theorem rxchunk_moves (bs : Bytes) (s : State) : IngressMoves s (rxchunk bs s) := by
  unfold rxchunk
  split
  case isTrue h => exact .head (.append h) (drain_moves _ _)
  case isFalse h => exact .single (.raise _ (rxbufOverflow_wf (by simpa using h)))

theorem IngressOp.moves {ps : List Prim} {whole : State → State} (op : IngressOp ps whole) (s : State) :
    IngressMoves s (whole s) := by
  cases op with
  | chunk bs => exact rxchunk_moves bs s
  | dispatch hf => exact dispatch_moves hf s
  | push hd => exact pushFrame_moves hd s
  | corrupt => exact actCorrupt_moves s
  | retx => exact actRetx_moves s
  | data hd => exact actData_moves hd s

end Sys2Proof.Machine
end

section
/-! PROOF. Writes that are no frame action's: they touch CACHE, TXLOG, the outbound wire and the draws, and nothing INGRESS
works on. -/

namespace Sys2Proof.Machine

/-- What INGRESS works on is the same in t as in s. -/
structure LeavesIngress (s t : State) : Prop where
  params : t.params = s.params
  rxbuf : t.rxbuf = s.rxbuf
  inq : t.inq = s.inq
  err : t.err = s.err
  raised : t.raised = s.raised
  offered : t.offered = s.offered
  ingressTask : t.ingressTask = s.ingressTask

theorem LeavesIngress.refl (s : State) : LeavesIngress s s := ⟨rfl, rfl, rfl, rfl, rfl, rfl, rfl⟩

theorem LeavesIngress.trans {s t u : State} (h : LeavesIngress s t) (k : LeavesIngress t u) : LeavesIngress s u :=
  ⟨k.params.trans h.params, k.rxbuf.trans h.rxbuf, k.inq.trans h.inq, k.err.trans h.err, k.raised.trans h.raised,
    k.offered.trans h.offered, k.ingressTask.trans h.ingressTask⟩

theorem txframe_leaves (f : Bytes) (s : State) : LeavesIngress s (txframe f s) := by
  unfold txframe
  split <;> exact ⟨rfl, rfl, rfl, rfl, rfl, rfl, rfl⟩

theorem callerEnd_leaves (c : Caller) (r : TxResult) (s : State) : LeavesIngress s (callerEnd c r s) := by
  cases c <;> exact ⟨rfl, rfl, rfl, rfl, rfl, rfl, rfl⟩

theorem transmit_leaves (f : Bytes) (c : Caller) (s : State) : LeavesIngress s (primState (.transmit f c) s) := by
  simp only [primState]
  split
  · exact ⟨rfl, rfl, rfl, rfl, rfl, rfl, rfl⟩
  · exact LeavesIngress.trans (t := s.transmit f) ⟨rfl, rfl, rfl, rfl, rfl, rfl, rfl⟩ (callerEnd_leaves c .fail _)

theorem cacheWrite_leaves (f : Bytes) (c : Caller) (s : State) : LeavesIngress s (primState (.cacheWrite f c) s) :=
  LeavesIngress.trans (t := s.cacheWrite f) ⟨rfl, rfl, rfl, rfl, rfl, rfl, rfl⟩ (callerEnd_leaves c .ok _)

theorem primState_leaves {p : Prim} (hp : p.isWrite = true) (s : State) : LeavesIngress s (primState p s) := by
  cases p with
  | transmit f c => exact transmit_leaves f c s
  | cacheWrite f c => exact cacheWrite_leaves f c s
  | _ => cases hp

theorem advanceSend_leaves {s : State} (h : ∀ p ∈ s.sendTask, p.isWrite = true) : LeavesIngress s (advanceSend s) := by
  unfold advanceSend
  split
  case h_1 p rest ht =>
    exact (primState_leaves (h p (by simp [ht])) s).trans ⟨rfl, rfl, rfl, rfl, rfl, rfl, rfl⟩
  case h_2 => exact .refl s

theorem advanceUnit_leaves {s : State} (h : ∀ p ∈ s.unitTask, p.isWrite = true) : LeavesIngress s (advanceUnit s) := by
  unfold advanceUnit
  split
  case h_1 p rest ht =>
    exact (primState_leaves (h p (by simp [ht])) s).trans ⟨rfl, rfl, rfl, rfl, rfl, rfl, rfl⟩
  case h_2 => exact .refl s

theorem startSend_leaves (f : Bytes) (s : State) :
    LeavesIngress s (s.startSend [.transmit f .send] (sendWrite f)) := 
  startSend_ind (P := LeavesIngress s) (fun _ => (txframe_leaves f s).trans ⟨rfl, rfl, rfl, rfl, rfl, rfl, rfl⟩)
    fun _ => ⟨rfl, rfl, rfl, rfl, rfl, rfl, rfl⟩

theorem startUnit_leaves (f : Bytes) (s : State) :
    LeavesIngress s (s.startUnit [.transmit f .txframe] fun x => (txframe f x).ret (.written x.txResult)) := 
  startUnit_ind (P := LeavesIngress s) (fun _ => (txframe_leaves f s).trans ⟨rfl, rfl, rfl, rfl, rfl, rfl, rfl⟩)
    fun _ => ⟨rfl, rfl, rfl, rfl, rfl, rfl, rfl⟩

end Sys2Proof.Machine
end

section
/-! PROOF. The bits of ERR are sticky (10_state.md R36). -/

namespace Sys2Proof.Machine

/-- No bit of ERR is cleared from e to e', and bits 7:4 are as before. -/
def ErrGrows (e e' : Byte) : Prop := e' &&& e = e ∧ e' &&& 0xF0#8 = e &&& 0xF0#8

theorem ErrGrows.refl (e : Byte) : ErrGrows e e := ⟨BitVec.and_self, rfl⟩

theorem ErrGrows.of_eq {e e' : Byte} (h : e' = e) : ErrGrows e e' := h ▸ .refl e

theorem ErrGrows.trans {a b c : Byte} (h : ErrGrows a b) (k : ErrGrows b c) : ErrGrows a c := by
  refine ⟨?_, k.2.trans h.2⟩
  calc c &&& a = c &&& (b &&& a) := by rw [h.1]
    _ = c &&& b &&& a := (BitVec.and_assoc ..).symm
    _ = a := by rw [k.1, h.1]

theorem setErrBit_grows (e : Byte) (b : ErrBit) : ErrGrows e (setErrBit e b) := by
  constructor
  · ext k
    simp only [setErrBit, BitVec.getElem_and, BitVec.getElem_or]
    cases e[k] <;> simp
  · have low : (1#8 <<< b.pos) &&& 0xF0#8 = 0#8 := by cases b <;> rfl
    rw [setErrBit, BitVec.and_or_distrib_right, low, BitVec.or_zero]

theorem raise_err_grows (s : State) (c : Cause) (bit : Option ErrBit) : ErrGrows s.err (s.raise c bit).err := by
  cases bit with
  | none => exact .refl _
  | some b => exact setErrBit_grows s.err b

/-- A bit that is 1 stays 1. -/
theorem ErrGrows.bit {e e' : Byte} (h : ErrGrows e e') {b : ErrBit} (hb : errBit e b = true) : errBit e' b = true := by
  unfold errBit at *
  have hk : (e' &&& e).getLsbD b.pos = true := by rw [h.1]; exact hb
  rw [BitVec.getLsbD_and, Bool.and_eq_true] at hk
  exact hk.1

/-- A halt stays (10_state.md R37). -/
theorem ErrGrows.halted {s t : State} (h : ErrGrows s.err t.err) (hs : s.halted = true) : t.halted = true := by
  simp only [State.halted, ingressHalted, Bool.or_eq_true] at *
  exact hs.imp (.imp h.bit h.bit) h.bit

theorem IngressMove.err_grows {s t : State} (m : IngressMove s t) : ErrGrows s.err t.err := by
  cases m with
  | raise c _ => exact raise_err_grows s c _
  | append _ => exact .refl _
  | take => exact .refl _
  | push _ _ => exact .refl _
  | write _ => exact .of_eq (txframe_leaves _ s).err

theorem IngressMoves.err_grows {s t : State} (h : IngressMoves s t) : ErrGrows s.err t.err :=
  h.has (R := fun s t => ErrGrows s.err t.err) (fun s => .refl s.err) .trans IngressMove.err_grows

theorem startIngress_err_grows {ps : List Prim} {whole : State → State} (op : IngressOp ps whole) (s : State) :
    ErrGrows s.err (s.startIngress ps whole).err :=
  startIngress_ind (P := fun t => ErrGrows s.err t.err) (fun _ => (op.moves s).err_grows) fun _ => .refl _

theorem Effect.err_grows {s t : State} (e : Effect s t) : ErrGrows s.err t.err := by
  cases e with
  | quiet hq _ => exact .of_eq hq.err
  | slices _ _ => exact .refl _
  | ingress _ _ op => exact startIngress_err_grows op s
  | sends _ => exact .of_eq (startSend_leaves _ s).err
  | writes _ => exact .of_eq (startUnit_leaves _ s).err

/-- Of the primitives only RESET's assignment to ERR clears a bit of it. -/
theorem primState_err_grows {p : Prim} (hp : p ≠ .clear .err) (s : State) : ErrGrows s.err (primState p s).err := by
  cases p with
  | raise c bit => exact raise_err_grows s c bit
  | rxTake => exact .of_eq (by simp only [primState]; split <;> rfl)
  | transmit f c => exact .of_eq (transmit_leaves f c s).err
  | cacheWrite f c => exact .of_eq (cacheWrite_leaves f c s).err
  | clear e =>
    cases e with
    | err => exact absurd rfl hp
    | cache | rxbuf | inq | txlog => exact .refl _
  | rxTest _ | rxAppend _ | drain | dispatch _ | pushTest _ | qPush _ | cacheRead => exact .refl _

/-- INGRESS's next step, whichever it is, clears no bit of ERR. -/
theorem advanceIngress_err_grows {s : State} (hp : s.ingressTask.head? ≠ some (.clear .err)) :
    ErrGrows s.err (advanceIngress s).err := by
  unfold advanceIngress
  split
  · exact .refl _
  · split
    case h_1 p rest ht => exact primState_err_grows (by simpa [ht] using hp) s
    case h_2 =>
      split
      case h_1 bs rest _ => exact startIngress_err_grows (.chunk bs) { s with offered := rest }
      case h_2 => exact .refl _

theorem advanceSend_err_grows {s : State} (hp : s.sendTask.head? ≠ some (.clear .err)) :
    ErrGrows s.err (advanceSend s).err := by
  unfold advanceSend
  split
  case h_1 p rest ht => exact primState_err_grows (by simpa [ht] using hp) s
  case h_2 => exact .refl _

theorem advanceUnit_err_grows {s : State} (hp : s.unitTask.head? ≠ some (.clear .err)) :
    ErrGrows s.err (advanceUnit s).err := by
  unfold advanceUnit
  split
  case h_1 p rest ht => exact primState_err_grows (by simpa [ht] using hp) s
  case h_2 => exact .refl _

theorem exec_err_grows {i : Instr} {s t : State} (hi : i ≠ .reset) (h : exec i s = .next t) : ErrGrows s.err t.err := by
  obtain e | ⟨hr, -, -⟩ := exec_cases h
  · exact e.err_grows
  · exact absurd hr hi

theorem step_err_grows {s t : State} (hx : s.inputs.head? ≠ some resetInput)
    (hi : s.ingressTask.head? ≠ some (.clear .err)) (hs : s.sendTask.head? ≠ some (.clear .err))
    (hu : s.unitTask.head? ≠ some (.clear .err)) (h : step s = .next t) : ErrGrows s.err t.err := by
  cases step_cases h with
  | quiet hq _ => exact .of_eq hq.err
  | runs who e => exact e.err_grows
  | resets hr => exact absurd hr hx
  | ingress => exact advanceIngress_err_grows (s := s.popInput) hi
  | send => exact advanceSend_err_grows (s := s.popInput) hs
  | unit => exact advanceUnit_err_grows (s := s.popInput) hu

/-- Settles O14: ERR grows along every effect of an operation and of a step; only the two RESET shapes are left out. -/
theorem errBitsAreSticky : Obligations.ErrBitsAreSticky :=
  ⟨fun _ _ _ hi h => exec_err_grows hi h, fun _ _ hx hi hs hu h => step_err_grows hx hi hs hu h⟩

end Sys2Proof.Machine
end

section
/-! PROOF. While ingress is halted INGRESS has no step (10_state.md R37, 42_assembler.md R185). -/

namespace Sys2Proof.Machine

/-- The halt stays, and with it all a halted ingress leaves alone: ERR, RXBUF, the causes, its operation, the chunks pending, and
of INQ everything but a head that RECV takes. -/
def KeepsHaltedIngress (s t : State) : Prop :=
  t.halted = true ∧ t.err = s.err ∧ t.rxbuf = s.rxbuf ∧ t.raised = s.raised ∧ t.ingressTask = s.ingressTask ∧
    (t.inq = s.inq ∨ t.inq = s.inq.tail) ∧ KeepsOffered s t

theorem halted_of_err_eq {s t : State} (h : t.err = s.err) : t.halted = s.halted := by
  simp only [State.halted, h]

theorem Quiet.keepsHaltedIngress {s t : State} (q : Quiet s t) (ho : KeepsOffered s t) (h : s.halted = true) :
    KeepsHaltedIngress s t :=
  ⟨(halted_of_err_eq q.err).trans h, q.err, q.rxbuf, q.raised, q.ingressTask, q.inq, ho⟩

theorem LeavesIngress.keepsHaltedIngress {s t : State} (l : LeavesIngress s t) (h : s.halted = true) :
    KeepsHaltedIngress s t :=
  ⟨(halted_of_err_eq l.err).trans h, l.err, l.rxbuf, l.raised, l.ingressTask, .inl l.inq, .inl l.offered⟩

theorem Effect.keepsHaltedIngress {s t : State} (e : Effect s t) (h : s.halted = true) : KeepsHaltedIngress s t := by
  cases e with
  | quiet hq ho => exact hq.keepsHaltedIngress ho h
  | slices hh _ => rw [h] at hh; cases hh
  | ingress hh _ _ => rw [h] at hh; cases hh
  | sends _ => exact (startSend_leaves _ s).keepsHaltedIngress h
  | writes _ => exact (startUnit_leaves _ s).keepsHaltedIngress h

theorem advanceIngress_halted {s : State} (h : s.halted = true) : advanceIngress s = s := by
  simp only [advanceIngress, h, if_true]

theorem step_keepsHaltedIngress {s t : State} (hh : s.halted = true)
    (hw : ∀ p ∈ s.sendTask ++ s.unitTask, p.isWrite = true) (h : step s = .next t) :
    s.inputs.head? = some resetInput ∨ KeepsHaltedIngress s t := by
  cases step_cases h with
  | quiet hq ho => exact .inr (hq.keepsHaltedIngress ho hh)
  | runs who e => exact .inr (e.keepsHaltedIngress hh)
  | resets hr => exact .inl hr
  | ingress =>
    rw [advanceIngress_halted (s := s.popInput) hh]
    exact .inr ((Quiet.popInput s).keepsHaltedIngress (.inl rfl) hh)
  | send =>
    have l := advanceSend_leaves (s := s.popInput) fun p hp => hw p (List.mem_append_left _ hp)
    exact .inr (l.keepsHaltedIngress hh)
  | unit =>
    have l := advanceUnit_leaves (s := s.popInput) fun p hp => hw p (List.mem_append_right _ hp)
    exact .inr (l.keepsHaltedIngress hh)

/-- Settles O15: of the effects of a step those of INGRESS need ingress unhalted, and the others leave its elements alone. -/
theorem haltedIngressHasNoStep : Obligations.HaltedIngressHasNoStep :=
  ⟨fun _ => rfl, fun _ h => advanceIngress_halted h, fun _ _ hh hw h => step_keepsHaltedIngress hh hw h⟩

end Sys2Proof.Machine
end

section
/-! PROOF. CACHE follows the writes (43_controller.md R208). -/

namespace Sys2Proof.Machine

/-- From s to t TXLOG only grows, and CACHE is the last frame added to it with ok, or as before. -/
def CacheFollows (s t : State) : Prop := ∃ w, t.txlog = s.txlog ++ w ∧ t.cache = (lastOk w).or s.cache

theorem lastOk_append (v w : List (Bytes × TxResult)) : lastOk (v ++ w) = (lastOk w).or (lastOk v) := by
  simp only [lastOk, List.filter_append, List.getLast?_append, Option.map_or]

theorem CacheFollows.of_eq {s t : State} (hl : t.txlog = s.txlog) (hc : t.cache = s.cache) : CacheFollows s t :=
  ⟨[], by simp [hl], by simp [lastOk, hc]⟩

theorem CacheFollows.trans {s t u : State} (h : CacheFollows s t) (k : CacheFollows t u) : CacheFollows s u := by
  obtain ⟨v, hl, hc⟩ := h
  obtain ⟨w, kl, kc⟩ := k
  exact ⟨v ++ w, by rw [kl, hl, List.append_assoc], by rw [kc, hc, lastOk_append, Option.or_assoc]⟩

/-- R208's own form: if CACHE was the last ok write of the log, it still is. -/
theorem CacheFollows.lastOk {s t : State} (h : CacheFollows s t) (hs : s.cache = lastOk s.txlog) :
    t.cache = Machine.lastOk t.txlog := by
  obtain ⟨w, hl, hc⟩ := h
  rw [hc, hl, lastOk_append, hs]

theorem txframe_cacheFollows (f : Bytes) (s : State) : CacheFollows s (txframe f s) := by
  rw [txframe_eq]
  cases s.answer with
  | ok => exact ⟨[(f, .ok)], rfl, rfl⟩
  | fail n => exact ⟨[(f, .fail)], rfl, rfl⟩

theorem IngressMove.cacheFollows {s t : State} (m : IngressMove s t) : CacheFollows s t := by
  cases m with
  | write _ => exact txframe_cacheFollows _ s
  | raise _ _ | append _ | take | push _ _ => exact .of_eq rfl rfl

theorem IngressMoves.cacheFollows {s t : State} (h : IngressMoves s t) : CacheFollows s t :=
  h.has (fun _ => .of_eq rfl rfl) .trans IngressMove.cacheFollows

theorem txframe_ret_cacheFollows (f : Bytes) (r : Result) (s : State) : CacheFollows s ((txframe f s).ret r) :=
  (txframe_cacheFollows f s).trans (.of_eq rfl rfl)

theorem Effect.cacheFollows {s t : State} (e : Effect s t) (he : s.params.atomicity = .event) : CacheFollows s t := by
  cases e with
  | quiet hq _ => exact .of_eq hq.txlog hq.cache
  | slices _ _ => exact .of_eq rfl rfl
  | ingress _ _ op => rw [startIngress_event he]; exact (op.moves s).cacheFollows
  | sends _ => rw [startSend_event he]; exact txframe_ret_cacheFollows _ _ s
  | writes _ => rw [startUnit_event he]; exact txframe_ret_cacheFollows _ _ s

/-- Settles O41: each move writes at most one frame and caches it on ok, and moves compose. -/
theorem cacheFollowsTheWrites : Obligations.CacheFollowsTheWrites := by
  intro i s t hi he h
  obtain e | ⟨hr, -, -⟩ := exec_cases h
  · exact e.cacheFollows he
  · exact absurd hr hi

end Sys2Proof.Machine
end

section
/-! PROOF. The elements' part of the invariant: CACHE, RXBUF, INQ, ERR and TXLOG by themselves, operation by operation. -/

namespace Sys2Proof.Machine

/-- What the invariant says of the elements apart from the operations in progress (10_state.md R33 to R36, 20_memory.md R66). -/
structure ElementsOk (ps : Params) (cache : Option Bytes) (rxbuf : Bytes) (inq : List Frame) (err : Byte)
    (txlog : List (Bytes × TxResult)) : Prop where
  cacheFrame : ∀ f, cache = some f → isFrame18 f = true
  queueData : ∀ fr ∈ inq, isDataFrame fr = true
  logFrames : ∀ e ∈ txlog, isFrame18 e.1 = true
  errReserved : err &&& 0xF0#8 = 0#8
  errRxbuf : ps.rxbufCap = none → errBit err .rxbufOverflow = false
  errInq : ps.inqCap = none → errBit err .inqOverflow = false
  rxbufCapacity : fits ps.rxbufCap rxbuf.length = true
  inqCapacity : fits ps.inqCap inq.length = true

/-- The elements of a state; by its arguments it does not see the fields it is not about. -/
abbrev State.elementsOk (s : State) : Prop := ElementsOk s.params s.cache s.rxbuf s.inq s.err s.txlog

theorem State.Inv.elementsOk {s : State} (h : s.Inv) : s.elementsOk :=
  ⟨h.cacheFrame, h.queueData, h.logFrames, h.errReserved, h.errRxbuf, h.errInq, h.rxbufCapacity, h.inqCapacity⟩

theorem fits_mono {cap : Option Nat} {m n : Nat} (hmn : m ≤ n) (h : fits cap n = true) : fits cap m = true := by
  cases cap with
  | none => rfl
  | some c => exact decide_eq_true (hmn.trans (of_decide_eq_true h))

theorem errBit_setErrBit (e : Byte) (b b' : ErrBit) : errBit (setErrBit e b) b' = (errBit e b' || decide (b = b')) := by
  cases b <;> cases b' <;> simp [errBit, setErrBit, ErrBit.pos]

theorem errBit_zero (b : ErrBit) : errBit 0#8 b = false := by cases b <;> rfl

theorem halted_of_err_zero {s : State} (h : s.err = 0#8) : s.halted = false := by
  rw [State.halted, h]; rfl

/-- A raise of another bit, or of none, leaves a bit 0. -/
theorem raise_errBit {s : State} {c : Cause} {bit : Option ErrBit} {b : ErrBit} (hb : bit ≠ some b)
    (h : errBit s.err b = false) : errBit (s.raise c bit).err b = false := by
  cases bit with
  | none => exact h
  | some b' => rw [State.raise_err_some, errBit_setErrBit, h, Bool.false_or, decide_eq_false fun e => hb (congrArg some e)]

/-- The overflow bit of an unbounded buffer is not the one a well-formed raise sets. -/
theorem raise_wf_iff {ps : Params} {c : Cause} {bit : Option ErrBit} :
    (Prim.raise c bit).wf ps = true ↔
      (ps.rxbufCap = none → bit ≠ some .rxbufOverflow) ∧ (ps.inqCap = none → bit ≠ some .inqOverflow) := by
  simp only [Prim.wf, Bool.and_eq_true, Bool.or_eq_true, decide_eq_true_eq, Option.isSome_iff_ne_none]
  tauto

namespace ElementsOk

variable {s : State} (h : s.elementsOk)
include h

theorem fewer {rx : Bytes} {q : List Frame} (hr : rx.length ≤ s.rxbuf.length) (hq : q.Sublist s.inq) :
    ElementsOk s.params s.cache rx q s.err s.txlog :=
  { h with
    queueData := fun fr hm => h.queueData fr (hq.subset hm)
    rxbufCapacity := fits_mono hr h.rxbufCapacity
    inqCapacity := fits_mono hq.length_le h.inqCapacity }

theorem raise {c : Cause} {bit : Option ErrBit} (hw : (Prim.raise c bit).wf s.params = true) :
    (s.raise c bit).elementsOk :=
  have ⟨hr, hi⟩ := raise_wf_iff.1 hw
  { h with
    errReserved := (raise_err_grows s c bit).2.trans h.errReserved
    errRxbuf := fun hc => raise_errBit (hr hc) (h.errRxbuf hc)
    errInq := fun hc => raise_errBit (hi hc) (h.errInq hc) }

theorem rxAppend {bs : Bytes} (hf : s.rxbufFits bs = true) : (s.rxAppend bs).elementsOk :=
  { h with rxbufCapacity := by rw [State.rxAppend_rxbuf, List.length_append]; exact hf }

theorem rxTake : s.rxTake.elementsOk := h.fewer (by simp) (.refl _)

theorem qPush {fr : Frame} (hd : isDataFrame fr = true) (hf : s.inqFits = true) : (s.qPush fr).elementsOk :=
  { h with
    queueData := fun x hx => by
      obtain hx | hx := List.mem_append.1 hx
      · exact h.queueData x hx
      · rw [List.mem_singleton.1 hx]; exact hd
    inqCapacity := by rw [State.qPush_inq, List.length_append]; exact hf }

theorem cacheWrite {f : Bytes} (hf : isFrame18 f = true) : (s.cacheWrite f).elementsOk :=
  { h with cacheFrame := fun g hg => by cases hg; exact hf }

theorem transmit {f : Bytes} (hf : isFrame18 f = true) : (s.transmit f).elementsOk :=
  { h with
    logFrames := fun e he => by
      obtain he | he := List.mem_append.1 he
      · exact h.logFrames e he
      · rw [List.mem_singleton.1 he]; exact hf }

theorem txframe {f : Bytes} (hf : isFrame18 f = true) : (txframe f s).elementsOk := by
  unfold Machine.txframe
  split
  · exact (h.transmit hf).cacheWrite hf
  · exact h.transmit hf

theorem clear (e : Element) : (s.clear e).elementsOk := by
  cases e with
  | cache => exact { h with cacheFrame := fun f hf => by cases hf }
  | rxbuf => exact h.fewer (Nat.zero_le _) (.refl _)
  | inq => exact h.fewer le_rfl (List.nil_sublist _)
  | err => exact { h with errReserved := BitVec.zero_and, errRxbuf := fun _ => errBit_zero _, errInq := fun _ => errBit_zero _ }
  | txlog => exact { h with logFrames := fun e he => by cases he }

theorem clearAll : s.clearAll.elementsOk := ((((h.clear .cache).clear .rxbuf).clear .inq).clear .err).clear .txlog

/-- A primitive that is well formed and has room keeps the elements right. -/
theorem primState {p : Prim} (hw : p.wf s.params = true) (hr : p.hasRoom s = true) : (primState p s).elementsOk := by
  cases p with
  | rxAppend bs => exact h.rxAppend hr
  | rxTake =>
    simp only [Machine.primState]
    split
    · exact h.rxTake
    · exact h
  | raise c bit => exact h.raise hw
  | qPush fr => exact h.qPush hw hr
  | transmit f c =>
    simp only [Machine.primState]
    split
    · exact h.transmit hw
    · cases c <;> exact h.transmit hw
  | cacheWrite f c => cases c <;> exact h.cacheWrite hw
  | clear e => exact h.clear e
  | rxTest _ | drain | dispatch _ | pushTest _ | cacheRead => exact h

end ElementsOk

theorem IngressMove.elementsOk {s t : State} (m : IngressMove s t) (h : s.elementsOk) : t.elementsOk := by
  cases m with
  | raise _ hw => exact h.raise hw
  | append hf => exact h.rxAppend hf
  | take => exact h.rxTake
  | push hd hf => exact h.qPush hd hf
  | write hf => exact h.txframe (hf.elim id (h.cacheFrame _))

theorem IngressMoves.elementsOk {s t : State} (m : IngressMoves s t) (h : s.elementsOk) : t.elementsOk :=
  m.has (R := fun s t => s.elementsOk → t.elementsOk) (fun _ => id) (fun f g => g ∘ f) IngressMove.elementsOk h

end Sys2Proof.Machine
end

section
/-! PROOF. The part of the invariant about the operations in progress: what INGRESS, APP_SEND and the block's own TXFRAME have
still to run, primitive by primitive. -/

namespace Sys2Proof.Machine

/-- Primitives that are well formed, and no appends. -/
def PlainPrims (ps : Params) (task : List Prim) : Prop := ∀ p ∈ task, p.wf ps = true ∧ p.isAppend = false

/-- Well-formed primitives of which only the first can be an append, which then has room. -/
structure TaskShape (s : State) (task : List Prim) : Prop where
  wf : ∀ p ∈ task, p.wf s.params = true
  headRoom : ∀ p ∈ task.head?, p.hasRoom s = true
  tailPlain : ∀ p ∈ task.tail, p.isAppend = false

/-- What INGRESS has in progress is of that shape, and a halt ends it. -/
structure IngressTaskOk (s : State) (task : List Prim) : Prop extends TaskShape s task where
  haltedIdle : s.halted = true → task = []

/-- APP_SEND has only writes and RESET's assignments in progress. -/
def SendTaskOk (ps : Params) (task : List Prim) : Prop :=
  ∀ p ∈ task, p.wf ps = true ∧ (p.isWrite || p.isClear) = true

/-- The block on its own has only a write in progress. -/
def UnitTaskOk (ps : Params) (task : List Prim) : Prop := ∀ p ∈ task, p.wf ps = true ∧ p.isWrite = true

theorem TaskShape.cons {s : State} {p : Prim} {rest : List Prim} (hw : p.wf s.params = true) (hr : p.hasRoom s = true)
    (hp : PlainPrims s.params rest) : TaskShape s (p :: rest) where
  wf := List.forall_mem_cons.2 ⟨hw, fun q hq => (hp q hq).1⟩
  headRoom q hq := by cases hq; exact hr
  tailPlain q hq := (hp q hq).2

theorem TaskShape.nil (s : State) : TaskShape s [] := ⟨by simp, by simp, by simp⟩

theorem PlainPrims.nil (ps : Params) : PlainPrims ps [] := List.forall_mem_nil _

theorem PlainPrims.single {ps : Params} {p : Prim} (h : p.wf ps = true ∧ p.isAppend = false) : PlainPrims ps [p] :=
  List.forall_mem_cons.2 ⟨h, PlainPrims.nil ps⟩

theorem PlainPrims.pair {ps : Params} {p q : Prim} (hp : p.wf ps = true ∧ p.isAppend = false)
    (hq : q.wf ps = true ∧ q.isAppend = false) : PlainPrims ps [p, q] :=
  List.forall_mem_cons.2 ⟨hp, PlainPrims.single hq⟩

theorem TaskShape.single {s : State} {p : Prim} (hw : p.wf s.params = true) (hr : p.hasRoom s = true) :
    TaskShape s [p] := .cons hw hr (.nil _)

theorem TaskShape.pair {s : State} {p q : Prim} (hw : p.wf s.params = true) (hr : p.hasRoom s = true)
    (hq : q.wf s.params = true) (ha : q.isAppend = false) : TaskShape s [p, q] :=
  .cons hw hr (.single ⟨hq, ha⟩)

theorem hasRoom_of_plain {p : Prim} (h : p.isAppend = false) (s : State) : p.hasRoom s = true := by
  cases p with
  | rxAppend _ => cases h
  | qPush _ => cases h
  | _ => rfl

theorem plain_of_write_or_clear {p : Prim} (h : (p.isWrite || p.isClear) = true) : p.isAppend = false := by
  cases p with
  | rxAppend _ => cases h
  | qPush _ => cases h
  | _ => rfl

theorem PlainPrims.shape {s : State} {task : List Prim} (h : PlainPrims s.params task) : TaskShape s task := by
  cases task with
  | nil => exact .nil s
  | cons p rest =>
    obtain ⟨⟨hw, ha⟩, hr⟩ := List.forall_mem_cons.1 h
    exact .cons hw (hasRoom_of_plain ha s) hr

/-- What comes next, put before a rest without appends. -/
theorem TaskShape.append {s : State} {next rest : List Prim} (h : TaskShape s next) (hr : PlainPrims s.params rest) :
    TaskShape s (next ++ rest) := by
  cases next with
  | nil => exact hr.shape
  | cons p ps =>
    refine .cons (h.wf p List.mem_cons_self) (h.headRoom p rfl) fun q hq => ?_
    obtain hq | hq := List.mem_append.1 hq
    · exact ⟨h.wf q (List.mem_cons_of_mem p hq), h.tailPlain q hq⟩
    · exact hr q hq

theorem IngressTaskOk.nil (s : State) : IngressTaskOk s [] := ⟨.nil s, fun _ => rfl⟩

/-- While ingress is not halted any operation of the shape may be in progress. -/
theorem TaskShape.unhalted {s : State} {task : List Prim} (h : TaskShape s task) (hh : s.halted = false) :
    IngressTaskOk s task :=
  ⟨h, fun hs => by rw [hh] at hs; cases hs⟩

/-- From s to t the parameters stay, the buffers only get shorter, and no halt begins: what any step of another agent than
INGRESS does to the elements INGRESS's operation rests on. -/
structure MakesRoom (s t : State) : Prop where
  params : t.params = s.params
  rxbuf : t.rxbuf.length ≤ s.rxbuf.length
  inq : t.inq.length ≤ s.inq.length
  halted : t.halted = true → s.halted = true

theorem hasRoom_mono {s t : State} (m : MakesRoom s t) {p : Prim} (h : p.hasRoom s = true) : p.hasRoom t = true := by
  cases p with
  | rxAppend bs => exact fits_mono (Nat.add_le_add_right m.rxbuf _) (m.params ▸ h)
  | qPush fr => exact fits_mono (Nat.add_le_add_right m.inq _) (m.params ▸ h)
  | _ => rfl

theorem IngressTaskOk.mono {s t : State} {task : List Prim} (h : IngressTaskOk s task) (m : MakesRoom s t) :
    IngressTaskOk t task where
  wf p hp := m.params ▸ h.wf p hp
  headRoom p hp := hasRoom_mono m (h.headRoom p hp)
  tailPlain := h.tailPlain
  haltedIdle ht := h.haltedIdle (m.halted ht)

theorem LeavesIngress.makesRoom {s t : State} (l : LeavesIngress s t) : MakesRoom s t :=
  ⟨l.params, by rw [l.rxbuf], by rw [l.inq], fun ht => halted_of_err_eq l.err ▸ ht⟩

theorem clear_makesRoom (e : Element) (s : State) : MakesRoom s (s.clear e) := by
  cases e with
  | rxbuf => exact ⟨rfl, Nat.zero_le _, le_rfl, id⟩
  | inq => exact ⟨rfl, le_rfl, Nat.zero_le _, id⟩
  | err => exact ⟨rfl, le_rfl, le_rfl, fun h => by rw [halted_of_err_zero rfl] at h; cases h⟩
  | cache | txlog => exact ⟨rfl, le_rfl, le_rfl, id⟩

theorem primState_makesRoom {p : Prim} (h : (p.isWrite || p.isClear) = true) (s : State) :
    MakesRoom s (primState p s) := by
  cases p with
  | clear e => exact clear_makesRoom e s
  | transmit f c => exact (transmit_leaves f c s).makesRoom
  | cacheWrite f c => exact (cacheWrite_leaves f c s).makesRoom
  | _ => cases h

/-! ### What a primitive puts next -/

theorem primThen_transmit_ok {s : State} (h : s.txResult = .ok) (f : Bytes) (c : Caller) :
    primThen (.transmit f c) s = [.cacheWrite f c] := by
  simp only [primThen, h]

/-- Only a frame action raises its failed write (43_controller.md R210). -/
theorem primThen_transmit_fail {s : State} (h : s.txResult = .fail) (f : Bytes) (c : Caller) :
    primThen (.transmit f c) s =
      if c = .action then [.raise .transportWriteFailure (some .ingressTxFail)] else [] := by
  cases c <;> simp only [primThen, h] <;> rfl

/-- What a primitive of INGRESS's operation puts next: an append only right behind its own test, which found room, an
overflow only of a buffer with a capacity, and whole frames and DATA only. -/
theorem primThen_shape {p : Prim} {s : State} (h : s.elementsOk) (hw : p.wf s.params = true) :
    TaskShape (primState p s) (primThen p s) := by
  cases p with
  | rxTest bs =>
    simp only [primThen]
    split
    case isTrue hf => exact .pair rfl hf rfl rfl
    case isFalse hf => exact .single (rxbufOverflow_wf (s := s) (by simpa using hf)) rfl
  | pushTest fr =>
    simp only [primThen]
    split
    case isTrue hf => exact .single hw hf
    case isFalse hf => exact .single (inqOverflow_wf (s := s) (by simpa using hf)) rfl
  | drain =>
    simp only [primThen]
    split
    · exact .pair rfl rfl rfl rfl
    · exact .nil _
  | rxTake =>
    simp only [primThen]
    split
    case isTrue hr => exact .single (rxHead_isFrame18 hr) rfl
    case isFalse => exact .nil _
  | dispatch f =>
    simp only [primThen]
    split
    case h_1 => exact .pair rfl rfl ((isFrame18_iff _).2 retxFrame_length) rfl
    case h_2 => exact .single rfl rfl
    case h_3 => exact .nil _
    case h_4 hc => exact .pair (isDataFrame_frameOf hw hc) rfl ((isFrame18_iff _).2 ackFrame_length) rfl
  | cacheRead =>
    simp only [primThen]
    split
    case h_1 => exact .single rfl rfl
    case h_2 c hc => exact .single (h.cacheFrame c hc) rfl
  | transmit f c =>
    cases hr : s.txResult with
    | ok => rw [primThen_transmit_ok hr]; exact .single hw rfl
    | fail =>
      rw [primThen_transmit_fail hr]
      split
      · exact .single rfl rfl
      · exact .nil _
  | rxAppend _ | raise _ _ | qPush _ | cacheWrite _ _ | clear _ => exact .nil _

/-- Behind a write that is no frame action's comes at most its CacheWrite (43_controller.md R205, R206). -/
theorem primThen_isWrite {p : Prim} (h : p.isWrite = true) (s : State) : ∀ q ∈ primThen p s, q.isWrite = true := by
  cases p with
  | transmit f c =>
    have hc : c ≠ .action := of_decide_eq_true h
    cases hr : s.txResult with
    | ok => rw [primThen_transmit_ok hr]; exact List.forall_mem_cons.2 ⟨h, List.forall_mem_nil _⟩
    | fail => rw [primThen_transmit_fail hr, if_neg hc]; exact List.forall_mem_nil _
  | cacheWrite f c => exact List.forall_mem_nil _
  | _ => cases h

/-- The same for what APP_SEND has in progress: behind an assignment of RESET nothing comes. -/
theorem primThen_write_or_clear {p : Prim} (h : (p.isWrite || p.isClear) = true) (s : State) :
    ∀ q ∈ primThen p s, (q.isWrite || q.isClear) = true := by
  intro q hq
  cases p with
  | clear e => cases hq
  | transmit f c => rw [primThen_isWrite (by simpa [Prim.isClear] using h) s q hq, Bool.true_or]
  | cacheWrite f c => cases hq
  | _ => cases h

end Sys2Proof.Machine
end

section
/-! PROOF. Every step keeps the invariant (10_state.md R33 to R37, 43_controller.md R208): the parts of the invariant put together,
effect by effect. -/

namespace Sys2Proof.Machine

/-! ### The invariant under each atomicity -/

theorem State.Inv.ingressTaskOk {s : State} (h : s.Inv) : IngressTaskOk s s.ingressTask where
  wf p hp := h.tasksWf p (by simp [State.tasks, hp])
  headRoom := h.headRoom
  tailPlain := h.tailPlain
  haltedIdle := h.haltedIdle

theorem State.Inv.sendTaskOk {s : State} (h : s.Inv) : SendTaskOk s.params s.sendTask :=
  fun p hp => ⟨h.tasksWf p (by simp [State.tasks, hp]), h.sendPrims p hp⟩

theorem State.Inv.unitTaskOk {s : State} (h : s.Inv) : UnitTaskOk s.params s.unitTask :=
  fun p hp => ⟨h.tasksWf p (by simp [State.tasks, hp]), h.unitPrims p hp⟩

theorem tasks_eq_nil_iff (s : State) : s.tasks = [] ↔ s.ingressTask = [] ∧ s.sendTask = [] ∧ s.unitTask = [] := by
  simp only [State.tasks, List.append_eq_nil_iff, and_assoc]

/-- With nothing in progress, as always under ATOMICITY = event: the elements right, RXBUF drained unless halted, CACHE the last
ok write. -/
theorem State.Inv.of_idle {t : State} (hd : t.elementsOk) (hi : t.tasks = [])
    (hr : t.halted = false → t.rxbuf.length < 18) (hc : t.cache = lastOk t.txlog) : t.Inv := by
  obtain ⟨ei, es, eu⟩ := (tasks_eq_nil_iff t).1 hi
  constructor
  case eventDrained => exact fun _ => hr
  case eventCache => exact fun _ => hc
  case eventIdle => exact fun _ => hi
  case tasksWf => simp [hi]
  case headRoom => simp [ei]
  case tailPlain => simp [ei]
  case sendPrims => simp [es]
  case unitPrims => simp [eu]
  case haltedIdle => exact fun _ => ei
  all_goals cases hd; assumption

/-- Under ATOMICITY = primitive: the elements and each of the three operations in progress right. -/
theorem State.Inv.of_primitive {t : State} (hp : t.params.atomicity = .primitive) (hd : t.elementsOk)
    (hi : IngressTaskOk t t.ingressTask) (hs : SendTaskOk t.params t.sendTask) (hu : UnitTaskOk t.params t.unitTask) :
    t.Inv := by
  have hne : t.params.atomicity ≠ .event := by rw [hp]; exact Atomicity.noConfusion
  constructor
  case eventDrained => exact fun he => absurd he hne
  case eventCache => exact fun he => absurd he hne
  case eventIdle => exact fun he => absurd he hne
  case tasksWf =>
    intro p hm
    obtain hm | hm := List.mem_append.1 hm
    · obtain hm | hm := List.mem_append.1 hm
      · exact hi.wf p hm
      · exact (hs p hm).1
    · exact (hu p hm).1
  case headRoom => exact hi.headRoom
  case tailPlain => exact hi.tailPlain
  case sendPrims => exact fun p hm => (hs p hm).2
  case unitPrims => exact fun p hm => (hu p hm).2
  case haltedIdle => exact hi.haltedIdle
  all_goals cases hd; assumption

/-- Something is in progress only under ATOMICITY = primitive. -/
theorem State.Inv.primitive_of_mem {s : State} (h : s.Inv) {p : Prim} (hp : p ∈ s.tasks) :
    s.params.atomicity = .primitive := by
  cases ha : s.params.atomicity with
  | primitive => rfl
  | event => rw [h.eventIdle ha] at hp; cases hp

/-! ### Steps that take bytes off RXBUF or entries off INQ, or nothing -/

/-- t has the elements and operations of s but for what was taken off RXBUF and INQ. -/
structure TakesOnly (s t : State) : Prop where
  params : t.params = s.params
  cache : t.cache = s.cache
  err : t.err = s.err
  txlog : t.txlog = s.txlog
  ingressTask : t.ingressTask = s.ingressTask
  sendTask : t.sendTask = s.sendTask
  unitTask : t.unitTask = s.unitTask
  rxbuf : t.rxbuf.length ≤ s.rxbuf.length
  inq : t.inq.Sublist s.inq

theorem TakesOnly.makesRoom {s t : State} (k : TakesOnly s t) : MakesRoom s t :=
  ⟨k.params, k.rxbuf, k.inq.length_le, fun ht => halted_of_err_eq k.err ▸ ht⟩

theorem TakesOnly.inv {s t : State} (k : TakesOnly s t) (h : s.Inv) : t.Inv := by
  have hd : t.elementsOk := by
    unfold State.elementsOk
    rw [k.params, k.cache, k.err, k.txlog]
    exact h.elementsOk.fewer k.rxbuf k.inq
  cases ha : s.params.atomicity with
  | event =>
    refine .of_idle hd ?_ (fun ht => ?_) ?_
    · rw [State.tasks, k.ingressTask, k.sendTask, k.unitTask]; exact h.eventIdle ha
    · exact k.rxbuf.trans_lt (h.eventDrained ha (halted_of_err_eq k.err ▸ ht))
    · rw [k.cache, k.txlog]; exact h.eventCache ha
  | primitive =>
    refine .of_primitive (k.params ▸ ha) hd ?_ ?_ ?_
    · rw [k.ingressTask]; exact h.ingressTaskOk.mono k.makesRoom
    · rw [k.sendTask, k.params]; exact h.sendTaskOk
    · rw [k.unitTask, k.params]; exact h.unitTaskOk

theorem Quiet.takesOnly {s t : State} (q : Quiet s t) : TakesOnly s t where
  params := q.params
  cache := q.cache
  err := q.err
  txlog := q.txlog
  ingressTask := q.ingressTask
  sendTask := q.sendTask
  unitTask := q.unitTask
  rxbuf := by rw [q.rxbuf]
  inq := by
    obtain e | e := q.inq <;> rw [e]
    exact List.tail_sublist _

theorem Quiet.inv {s t : State} (q : Quiet s t) (h : s.Inv) : t.Inv := q.takesOnly.inv h

theorem slice_takesOnly (s : State) (r : Result) : TakesOnly s (s.rxTake.ret r) :=
  ⟨rfl, rfl, rfl, rfl, rfl, rfl, rfl, by simp, .refl _⟩

/-! ### INGRESS's operations as one step -/

/-- The parameters and the operations in progress are the same in t as in s. -/
structure SameTasks (s t : State) : Prop where
  params : t.params = s.params
  ingressTask : t.ingressTask = s.ingressTask
  sendTask : t.sendTask = s.sendTask
  unitTask : t.unitTask = s.unitTask

theorem SameTasks.refl (s : State) : SameTasks s s := ⟨rfl, rfl, rfl, rfl⟩

theorem SameTasks.trans {s t u : State} (h : SameTasks s t) (k : SameTasks t u) : SameTasks s u :=
  ⟨k.params.trans h.params, k.ingressTask.trans h.ingressTask, k.sendTask.trans h.sendTask, k.unitTask.trans h.unitTask⟩

theorem SameTasks.tasks {s t : State} (h : SameTasks s t) : t.tasks = s.tasks := by
  simp only [State.tasks, h.ingressTask, h.sendTask, h.unitTask]

theorem SameTasks.sendTaskOk {s t : State} (k : SameTasks s t) (h : s.Inv) : SendTaskOk t.params t.sendTask := by
  rw [k.params, k.sendTask]; exact h.sendTaskOk

theorem SameTasks.unitTaskOk {s t : State} (k : SameTasks s t) (h : s.Inv) : UnitTaskOk t.params t.unitTask := by
  rw [k.params, k.unitTask]; exact h.unitTaskOk

theorem SameOutside.sameTasks {s t : State} (h : SameOutside s t) : SameTasks s t :=
  ⟨h.params, h.ingressTask, h.sendTask, h.unitTask⟩

theorem txframe_outside (f : Bytes) (s : State) : SameOutside s (txframe f s) := by
  rw [txframe_eq]; exact afterWrite_outside s f _

theorem IngressMove.sameTasks {s t : State} (m : IngressMove s t) : SameTasks s t := by
  cases m with
  | write _ => exact (txframe_outside _ s).sameTasks
  | raise _ _ | append _ | take | push _ _ => exact ⟨rfl, rfl, rfl, rfl⟩

theorem IngressMoves.sameTasks {s t : State} (h : IngressMoves s t) : SameTasks s t :=
  h.has .refl .trans IngressMove.sameTasks

theorem actRetx_outside (s : State) : SameOutside s (actRetx s) := by
  unfold actRetx
  split
  · exact raise_outside s _ _
  · exact actionWrite_outside _ s

theorem actData_outside (fr : Frame) (s : State) : SameOutside s (actData fr s) := by
  unfold actData
  split
  · exact (pushFrame_outside fr s).trans (actionWrite_outside _ _)
  · exact pushFrame_outside fr s

/-- The drain loop ends only when no whole frame is left or ingress is halted (42_assembler.md R180). -/
theorem drain_canSlice (n : Nat) (s : State) (hn : s.rxbuf.length ≤ n) : (drain n s).canSlice = false := by
  induction n generalizing s with
  | zero => exact (canSlice_eq_false_iff s).2 (.inl (by omega))
  | succ n ih =>
    cases h : s.canSlice with
    | false => rw [drain_stops h, h]
    | true =>
      rw [drain_slices h]
      have h18 := ((canSlice_iff s).1 h).1
      exact ih _ (by rw [dispatch_rxTake_length]; omega)

theorem rxchunk_drained (bs : Bytes) (s : State) (hh : (rxchunk bs s).halted = false) :
    (rxchunk bs s).rxbuf.length < 18 := by
  unfold rxchunk at *
  split at hh
  case isTrue hf =>
    rw [if_pos hf]
    have hd := drain_canSlice (s.rxbuf.length + bs.length) (s.rxAppend bs) (by simp)
    exact ((canSlice_eq_false_iff _).1 hd).resolve_right (by simp [hh])
  case isFalse =>
    have halts : (s.raise .capacityOverflow (some .rxbufOverflow)).halted = true := by
      simp only [State.halted, ingressHalted, State.raise_err_some, errBit_setErrBit]; simp
    rw [halts] at hh; cases hh

/-- Whatever INGRESS runs as one step leaves RXBUF drained unless it halts. -/
theorem IngressOp.drained {ps : List Prim} {whole : State → State} (op : IngressOp ps whole) {s : State}
    (h : s.rxbuf.length < 18) (hh : (whole s).halted = false) : (whole s).rxbuf.length < 18 := by
  cases op with
  | chunk bs => exact rxchunk_drained bs s hh
  | dispatch _ => rw [(dispatch_outside _ s).rxbuf]; exact h
  | push _ => rw [(pushFrame_outside _ s).rxbuf]; exact h
  | corrupt => rw [actCorrupt, (actionWrite_outside _ _).rxbuf]; exact h
  | retx => rw [(actRetx_outside s).rxbuf]; exact h
  | data _ => rw [(actData_outside _ s).rxbuf]; exact h

/-- The primitives an operation of INGRESS starts with are well formed and no appends. -/
theorem IngressOp.plain {ps : List Prim} {whole : State → State} (op : IngressOp ps whole) (par : Params) :
    PlainPrims par ps := by
  cases op with
  | chunk bs => exact PlainPrims.single ⟨rfl, rfl⟩
  | dispatch hf => exact PlainPrims.single ⟨hf, rfl⟩
  | push hd => exact PlainPrims.single ⟨hd, rfl⟩
  | corrupt => exact PlainPrims.pair ⟨rfl, rfl⟩ ⟨(isFrame18_iff _).2 retxFrame_length, rfl⟩
  | retx => exact PlainPrims.single ⟨rfl, rfl⟩
  | data hd => exact PlainPrims.pair ⟨hd, rfl⟩ ⟨(isFrame18_iff _).2 ackFrame_length, rfl⟩

/-- A step under ATOMICITY = event that touches no operation in progress. -/
theorem State.Inv.event_step {s t : State} (h : s.Inv) (he : s.params.atomicity = .event) (k : SameTasks s t)
    (hd : t.elementsOk) (hc : CacheFollows s t) (hr : t.halted = false → t.rxbuf.length < 18) : t.Inv :=
  .of_idle hd (k.tasks.trans (h.eventIdle he)) hr (hc.lastOk (h.eventCache he))

theorem startIngress_inv {s : State} (h : s.Inv) (hh : s.halted = false) {ps : List Prim} {whole : State → State}
    (op : IngressOp ps whole) : (s.startIngress ps whole).Inv := by
  refine startIngress_ind (P := State.Inv) (fun he => ?_) fun hp => ?_
  · have m := op.moves s
    exact h.event_step he m.sameTasks (m.elementsOk h.elementsOk) m.cacheFollows (op.drained (h.eventDrained he hh))
  · exact .of_primitive hp h.elementsOk (TaskShape.unhalted (PlainPrims.shape (op.plain s.params)) hh)
      h.sendTaskOk h.unitTaskOk

/-! ### SEND, the block's own TXFRAME, RESET -/

/-- A write that is no frame action's, its result returned, under ATOMICITY = event. -/
theorem txframe_ret_inv {s : State} (h : s.Inv) (he : s.params.atomicity = .event) {f : Bytes} (hf : isFrame18 f = true)
    (r : Result) : ((txframe f s).ret r).Inv := by
  have l := txframe_leaves f s
  have k : SameTasks s ((txframe f s).ret r) := (txframe_outside f s).sameTasks.trans ⟨rfl, rfl, rfl, rfl⟩
  refine h.event_step he k (h.elementsOk.txframe hf) (txframe_ret_cacheFollows f r s) fun ht => ?_
  rw [State.ret_rxbuf, l.rxbuf]
  exact h.eventDrained he (halted_of_err_eq l.err ▸ ht)

theorem sends_inv {s : State} (h : s.Inv) {f : Bytes} (hf : isFrame18 f = true) :
    (s.startSend [.transmit f .send] (sendWrite f)).Inv :=
  startSend_ind (P := State.Inv) (fun he => txframe_ret_inv h he hf _) fun hp =>
    .of_primitive hp h.elementsOk (h.ingressTaskOk.mono ⟨rfl, le_rfl, le_rfl, id⟩)
      (List.forall_mem_singleton.2 ⟨hf, rfl⟩) h.unitTaskOk

theorem writes_inv {s : State} (h : s.Inv) {f : Bytes} (hf : isFrame18 f = true) :
    (s.startUnit [.transmit f .txframe] fun x => (txframe f x).ret (.written x.txResult)).Inv :=
  startUnit_ind (P := State.Inv) (fun he => txframe_ret_inv h he hf _) fun hp =>
    .of_primitive hp h.elementsOk (h.ingressTaskOk.mono ⟨rfl, le_rfl, le_rfl, id⟩) h.sendTaskOk
      (List.forall_mem_singleton.2 ⟨hf, rfl⟩)

theorem startReset_inv {s : State} (h : s.Inv) : s.startReset.Inv := by
  refine startSend_ind (P := State.Inv) (fun he => ?_) fun hp => ?_
  · exact .of_idle h.elementsOk.clearAll (h.eventIdle he) (fun _ => Nat.zero_lt_succ _) rfl
  · refine .of_primitive hp h.elementsOk (h.ingressTaskOk.mono ⟨rfl, le_rfl, le_rfl, id⟩) (fun p hm => ?_) h.unitTaskOk
    obtain ⟨e, -, rfl⟩ := List.mem_map.1 hm
    exact ⟨rfl, rfl⟩

theorem Effect.inv {s t : State} (e : Effect s t) (h : s.Inv) : t.Inv := by
  cases e with
  | quiet hq _ => exact hq.inv h
  | slices _ _ => exact (slice_takesOnly s _).inv h
  | ingress hh _ op => exact startIngress_inv h hh op
  | sends hf => exact sends_inv h hf
  | writes hf => exact writes_inv h hf

/-! ### One primitive of an operation in progress -/

theorem callerEnd_sameTasks (c : Caller) (r : TxResult) (s : State) : SameTasks s (callerEnd c r s) := by
  cases c <;> exact ⟨rfl, rfl, rfl, rfl⟩

theorem primState_sameTasks (p : Prim) (s : State) : SameTasks s (primState p s) := by
  cases p with
  | rxTake => simp only [primState]; split <;> exact ⟨rfl, rfl, rfl, rfl⟩
  | transmit f c =>
    simp only [primState]
    split
    · exact ⟨rfl, rfl, rfl, rfl⟩
    · exact SameTasks.trans (t := s.transmit f) ⟨rfl, rfl, rfl, rfl⟩ (callerEnd_sameTasks c .fail _)
  | cacheWrite f c => exact SameTasks.trans (t := s.cacheWrite f) ⟨rfl, rfl, rfl, rfl⟩ (callerEnd_sameTasks c .ok _)
  | clear e => cases e <;> exact ⟨rfl, rfl, rfl, rfl⟩
  | rxTest _ | rxAppend _ | drain | dispatch _ | raise _ _ | pushTest _ | qPush _ | cacheRead => exact ⟨rfl, rfl, rfl, rfl⟩

/-- INGRESS's operation after one of its primitives: what comes next, then the rest, or nothing after a halt. -/
theorem ingressRest_ok {s : State} {p : Prim} {rest : List Prim} (h : s.elementsOk) (hi : IngressTaskOk s (p :: rest)) :
    IngressTaskOk (primState p s) (ingressRest p rest s) := by
  obtain ⟨hp, hw⟩ := List.forall_mem_cons.1 hi.wf
  unfold ingressRest
  split
  case isTrue => exact .nil _
  case isFalse hh =>
    have plain : PlainPrims (primState p s).params rest := by
      rw [(primState_sameTasks p s).params]
      exact fun q hq => ⟨hw q hq, hi.tailPlain q hq⟩
    exact ((primThen_shape h hp).append plain).unhalted (by simpa using hh)

theorem advanceIngress_inv {s : State} (h : s.Inv) : (advanceIngress s).Inv := by
  unfold advanceIngress
  split
  case isTrue => exact h
  case isFalse hh =>
    replace hh : s.halted = false := by simpa using hh
    split
    case h_1 p rest ht =>
      have hi : IngressTaskOk s (p :: rest) := ht ▸ h.ingressTaskOk
      have hd := h.elementsOk.primState (hi.wf p List.mem_cons_self) (hi.headRoom p rfl)
      have k := primState_sameTasks p s
      have hm : p ∈ s.tasks := by simp [State.tasks, ht]
      exact .of_primitive (k.params ▸ h.primitive_of_mem hm) hd
        ((ingressRest_ok h.elementsOk hi).mono ⟨rfl, le_rfl, le_rfl, id⟩) (k.sendTaskOk h) (k.unitTaskOk h)
    case h_2 =>
      split
      case h_1 bs rest _ =>
        have ho : State.Inv { s with offered := rest } :=
          TakesOnly.inv (s := s) ⟨rfl, rfl, rfl, rfl, rfl, rfl, rfl, le_rfl, .refl _⟩ h
        exact startIngress_inv ho hh (.chunk bs)
      case h_2 => exact h

/-- A write of SEND or of the block's own TXFRAME, or an assignment of RESET, keeps all but its own operation right. -/
theorem primState_others {s : State} (h : s.Inv) {p : Prim} (hw : p.wf s.params = true)
    (hc : (p.isWrite || p.isClear) = true) :
    (primState p s).elementsOk ∧ IngressTaskOk (primState p s) (primState p s).ingressTask := by
  refine ⟨h.elementsOk.primState hw (hasRoom_of_plain (plain_of_write_or_clear hc) s), ?_⟩
  rw [(primState_sameTasks p s).ingressTask]
  exact h.ingressTaskOk.mono (primState_makesRoom hc s)

theorem advanceSend_inv {s : State} (h : s.Inv) : (advanceSend s).Inv := by
  unfold advanceSend
  split
  case h_1 p rest ht =>
    obtain ⟨⟨hw, hc⟩, hr⟩ : (_ ∧ _) ∧ SendTaskOk s.params rest := List.forall_mem_cons.1 (ht ▸ h.sendTaskOk)
    obtain ⟨hd, hi⟩ := primState_others h hw hc
    have k := primState_sameTasks p s
    have hm : p ∈ s.tasks := by simp [State.tasks, ht]
    refine .of_primitive (k.params ▸ h.primitive_of_mem hm) hd (hi.mono ⟨rfl, le_rfl, le_rfl, id⟩) ?_ (k.unitTaskOk h)
    refine List.forall_mem_append.2 ⟨fun q hq => ⟨?_, primThen_write_or_clear hc s q hq⟩, k.params ▸ hr⟩
    exact (primThen_shape h.elementsOk hw).wf q hq
  case h_2 => exact h

theorem advanceUnit_inv {s : State} (h : s.Inv) : (advanceUnit s).Inv := by
  unfold advanceUnit
  split
  case h_1 p rest ht =>
    obtain ⟨⟨hw, hc⟩, hr⟩ : (_ ∧ _) ∧ UnitTaskOk s.params rest := List.forall_mem_cons.1 (ht ▸ h.unitTaskOk)
    obtain ⟨hd, hi⟩ := primState_others h hw (by rw [hc, Bool.true_or])
    have k := primState_sameTasks p s
    have hm : p ∈ s.tasks := by simp [State.tasks, ht]
    refine .of_primitive (k.params ▸ h.primitive_of_mem hm) hd (hi.mono ⟨rfl, le_rfl, le_rfl, id⟩) (k.sendTaskOk h) ?_
    refine List.forall_mem_append.2 ⟨fun q hq => ⟨?_, primThen_isWrite hc s q hq⟩, k.params ▸ hr⟩
    exact (primThen_shape h.elementsOk hw).wf q hq
  case h_2 => exact h

/-- Settles O11: each effect of a step keeps the elements' part and, by the atomicity, the part about operations in progress or
the one about a drained RXBUF and CACHE. -/
theorem stepKeepsTheInvariant : Obligations.StepKeepsTheInvariant := by
  intro s t h hst
  cases step_cases hst with
  | quiet hq _ => exact hq.inv h
  | runs who e => exact e.inv ((Quiet.issuedBy s who).inv h)
  | resets _ => exact startReset_inv ((Quiet.issuedBy s _).inv h)
  | ingress => exact advanceIngress_inv ((Quiet.popInput s).inv h)
  | send => exact advanceSend_inv ((Quiet.popInput s).inv h)
  | unit => exact advanceUnit_inv ((Quiet.popInput s).inv h)

end Sys2Proof.Machine
end

section
/-! PROOF. The residue of 18-byte slicing: RXBUF after any chunks that do not halt ingress (20_memory.md R64,
42_assembler.md R182, R183). -/

namespace Sys2Proof.Machine

/-- The bytes past the last multiple of 18. -/
def residue (bs : Bytes) : Bytes := bs.drop (18 * (bs.length / 18))

theorem residue_of_short {bs : Bytes} (h : bs.length < 18) : residue bs = bs := by
  rw [residue, Nat.div_eq_of_lt h]; rfl

/-- Whole frames taken off the front do not change the residue. -/
theorem residue_drop {bs : Bytes} {k : Nat} (h : 18 * k ≤ bs.length) : residue (bs.drop (18 * k)) = residue bs := by
  have hk : 18 * k + 18 * ((bs.length - 18 * k) / 18) = 18 * (bs.length / 18) := by omega
  rw [residue, List.drop_drop, List.length_drop, hk, residue]

/-- Slicing before more bytes arrive leaves what slicing after it leaves: the cut between the two does not matter. -/
theorem residue_append (a b : Bytes) : residue (residue a ++ b) = residue (a ++ b) := by
  have ha : 18 * (a.length / 18) ≤ a.length := Nat.mul_div_le _ _
  have cut : residue a ++ b = (a ++ b).drop (18 * (a.length / 18)) := (List.drop_append_of_le_length ha).symm
  rw [cut, residue_drop (by rw [List.length_append]; omega)]

/-- A drain that does not halt leaves the residue of RXBUF. -/
theorem drain_residue (n : Nat) (s : State) (hn : s.rxbuf.length ≤ n) (hh : (drain n s).halted = false) :
    (drain n s).rxbuf = residue s.rxbuf := by
  induction n generalizing s with
  | zero => exact (residue_of_short (bs := s.rxbuf) (by omega)).symm
  | succ n ih =>
    cases h : s.canSlice with
    | false =>
      rw [drain_stops h] at hh ⊢
      have short := ((canSlice_eq_false_iff s).1 h).resolve_right (by simp [hh])
      exact (residue_of_short short).symm
    | true =>
      have h18 := ((canSlice_iff s).1 h).1
      rw [drain_slices h] at hh ⊢
      rw [ih _ (by rw [dispatch_rxTake_length]; omega) hh, (dispatch_outside s.rxHead s.rxTake).rxbuf]
      exact residue_drop (k := 1) h18

/-- Setting any bit of ERR but bit 0 halts ingress (10_state.md R37). -/
theorem raise_halted (s : State) (c : Cause) {b : ErrBit} (hb : b ≠ .emptyCacheRetx) :
    (s.raise c (some b)).halted = true := by
  simp only [State.halted, ingressHalted, State.raise_err_some, errBit_setErrBit]
  cases b with
  | emptyCacheRetx => exact absurd rfl hb
  | ingressTxFail | rxbufOverflow | inqOverflow => simp

/-- A chunk that does not halt ingress was appended and drained (42_assembler.md R180). -/
theorem rxchunk_unhalted {bs : Bytes} {s : State} (hh : (rxchunk bs s).halted = false) :
    rxchunk bs s = drain (s.rxbuf.length + bs.length) (s.rxAppend bs) := by
  unfold rxchunk at *
  split at hh
  case isTrue hf => rw [if_pos hf]
  case isFalse => rw [raise_halted s _ (by simp)] at hh; cases hh

theorem rxchunk_residue {bs : Bytes} {s : State} (hh : (rxchunk bs s).halted = false) :
    (rxchunk bs s).rxbuf = residue (s.rxbuf ++ bs) := by
  have e := rxchunk_unhalted hh
  rw [e] at hh ⊢
  exact drain_residue _ _ (by simp) hh

/-- Between ingress events under ATOMICITY = event: INGRESS can take the next chunk, and RXBUF holds no whole frame. -/
structure State.Drained (s : State) : Prop where
  unhalted : s.halted = false
  idle : s.ingressTask = []
  noneOffered : s.offered = []
  event : s.params.atomicity = .event
  short : s.rxbuf.length < 18

theorem rxchunk_keepsDrained {bs : Bytes} {s : State} (h : s.Drained) (hh : (rxchunk bs s).halted = false) :
    (rxchunk bs s).Drained := by
  obtain ⟨hp, -, ho, -, -, -, hi, -, -⟩ := drain_keeps (s.rxbuf.length + bs.length) (s.rxAppend bs)
  rw [← rxchunk_unhalted hh] at hp ho hi
  exact ⟨hh, hi.trans h.idle, ho.trans h.noneOffered, (congrArg Params.atomicity hp).trans h.event, rxchunk_drained bs s hh⟩

/-! ### A run of chunks -/

theorem runInputs_cons (x : Input) (xs : List Input) (s : State) :
    runInputs (x :: xs) s = runInputs xs (stepOn x s) := rfl

/-- s as a command of `who` finds it when no other input is to come. -/
def State.issuing (s : State) (who : Issuer) : State := { s with inputs := [], issuer := who }

/-- An offered chunk's step is RXCHUNK by TRANSPORT. -/
theorem exec_stepOn_chunkInput (bs : Bytes) (s : State) :
    exec (.rxchunk bs) (s.issuing (.agent .transport)) = .next (stepOn (chunkInput bs) s) := rfl

theorem State.Drained.issuing {s : State} (h : s.Drained) (who : Issuer) : (s.issuing who).Drained :=
  ⟨h.unhalted, h.idle, h.noneOffered, h.event, h.short⟩

/-- A chunk offered between ingress events is taken at once and as one step. -/
theorem State.Drained.stepOn_chunkInput {s : State} (h : s.Drained) (bs : Bytes) :
    stepOn (chunkInput bs) s = rxchunk bs (s.issuing (.agent .transport)) := by
  have ready := (chunk_ready_iff (s.issuing (.agent .transport))).2 ⟨h.unhalted, h.idle, h.noneOffered⟩
  have runs := attempt_runs (adm := true) (leaveOffered bs) (ingressEvent bs) rfl ready
  have hs := exec_stepOn_chunkInput bs s
  simp only [exec, execRxchunk, runs, Host.Outcome.next.injEq] at hs
  rw [← hs, ingressEvent, startIngress_event (h.issuing _).event]

theorem stepOn_chunkInput_halted (bs : Bytes) {s : State} (h : s.halted = true) :
    (stepOn (chunkInput bs) s).halted = true :=
  (exec_err_grows (by simp) (exec_stepOn_chunkInput bs s)).halted h

/-- No chunk ends a halt. -/
theorem runInputs_chunks_halted (chunks : List Bytes) {s : State} (h : s.halted = true) :
    (runInputs (chunks.map chunkInput) s).halted = true := by
  induction chunks generalizing s with
  | nil => exact h
  | cons bs rest ih =>
    rw [List.map_cons, runInputs_cons]
    exact ih (stepOn_chunkInput_halted bs h)

theorem runInputs_chunks_residue (chunks : List Bytes) {s : State} (h : s.Drained)
    (hh : (runInputs (chunks.map chunkInput) s).halted = false) :
    (runInputs (chunks.map chunkInput) s).rxbuf = residue (s.rxbuf ++ chunks.flatten) := by
  induction chunks generalizing s with
  | nil => rw [List.flatten_nil, List.append_nil, residue_of_short h.short]; rfl
  | cons bs rest ih =>
    rw [List.map_cons, runInputs_cons] at hh ⊢
    have now : (stepOn (chunkInput bs) s).halted = false :=
      Bool.eq_false_iff.2 fun ht => by rw [runInputs_chunks_halted rest ht] at hh; cases hh
    rw [h.stepOn_chunkInput bs] at hh now ⊢
    rw [ih (rxchunk_keepsDrained (h.issuing _) now) hh, rxchunk_residue now, residue_append, List.flatten_cons,
      List.append_assoc]
    rfl

/-- Settles O30: every chunk leaves the residue of what was buffered before it and its own bytes, and residues compose. -/
theorem slicesFallAtEvery18thByte : Obligations.SlicesFallAtEvery18thByte := by
  intro chunks s hh hi ho he hs hf
  rw [runInputs_chunks_residue chunks ⟨hh, hi, ho, he, hs⟩ hf, residue, List.length_append]

end Sys2Proof.Machine
end

section
/-! PROOF. The pure operations and READERR only return a value (20_memory.md R68). -/

namespace Sys2Proof.Machine

/-- An operation that only returns a value is refused, does not start, or returns it: at most one value is returned. -/
theorem attempt_ret_cases (s : State) (g : OpGroup) (adm : Bool) (value : State → Result) :
    s.attempt g adm id (fun st => st.ret (value st)) = s ∨
      ∃ r, s.attempt g adm id (fun st => st.ret (value st)) = { s with returns := s.returns ++ [(s.issuer, r)] } := by
  obtain ⟨-, e⟩ | ⟨-, -, e⟩ | ⟨-, -, e⟩ := attempt_cases s g adm id fun st => st.ret (value st) <;> rw [e]
  · exact .inr ⟨.status 0x05#8, rfl⟩
  · exact .inl rfl
  · exact .inr ⟨value s, rfl⟩

/-- Settles O50: each of the six is an admission of an operation that only returns a value. -/
theorem pureOperationsHaveNoSideEffect : Obligations.PureOperationsHaveNoSideEffect := by
  intro i s t hi h
  cases i with
  | crc8 _ | encode _ _ | decode _ | validate _ | classify _ | readerr =>
    cases h
    exact attempt_ret_cases s _ _ _
  | _ => cases hi

end Sys2Proof.Machine
end

section
/-! PROOF. One primitive of an operation in progress and what it leaves next (20_memory.md R67, R71). -/

namespace Sys2Proof.Machine

theorem advanceIngress_prim {s : State} {p : Prim} {rest : List Prim} (hh : s.halted = false)
    (ht : s.ingressTask = p :: rest) :
    advanceIngress s = { primState p s with ingressTask := ingressRest p rest s } := by
  simp only [advanceIngress, hh, ht]; rfl

/-- A primitive of INGRESS that leaves ERR alone does not end the operation. -/
theorem advanceIngress_goes_on {s : State} {p : Prim} {rest : List Prim} (hh : s.halted = false)
    (ht : s.ingressTask = p :: rest) (he : (primState p s).err = s.err) :
    advanceIngress s = { primState p s with ingressTask := primThen p s ++ rest } := by
  have hp : (primState p s).halted = false := (halted_of_err_eq he).trans hh
  rw [advanceIngress_prim hh ht, ingressRest, hp]; rfl

theorem advanceSend_prim {s : State} {p : Prim} {rest : List Prim} (ht : s.sendTask = p :: rest) :
    advanceSend s = { primState p s with sendTask := primThen p s ++ rest } := by
  simp only [advanceSend, ht]

theorem advanceUnit_prim {s : State} {p : Prim} {rest : List Prim} (ht : s.unitTask = p :: rest) :
    advanceUnit s = { primState p s with unitTask := primThen p s ++ rest } := by
  simp only [advanceUnit, ht]

theorem txResult_of_ok {s : State} (h : s.answer = .ok) : s.txResult = .ok := by rw [txResult_eq, h]; rfl

theorem primState_transmit_ok {s : State} (h : s.txResult = .ok) (f : Bytes) (c : Caller) :
    primState (.transmit f c) s = s.transmit f := by
  simp only [primState, h]

theorem primThen_dispatch_data {f : Bytes} (hc : classify (frameOf f) = .data) (s : State) :
    primThen (.dispatch f) s = [.pushTest (frameOf f), .transmit ackFrame .action] := by
  simp only [primThen, hc]

/-- The capacity test of PUSH changes nothing and leaves QPush or the raise next (44_queue.md R240). -/
theorem advanceIngress_pushTest {s : State} {fr : Frame} {rest : List Prim} (hh : s.halted = false)
    (ht : s.ingressTask = .pushTest fr :: rest) :
    advanceIngress s =
      if fits s.params.inqCap (s.inq.length + 1) = true then { s with ingressTask := .qPush fr :: rest }
      else { s with ingressTask := .raise .capacityOverflow (some .inqOverflow) :: rest } := by
  rw [advanceIngress_goes_on hh ht rfl, primThen, State.inqFits]
  split <;> rfl

/-- The overflow's raise sets ERR[3], and the halt drops what was left of the operation (44_queue.md R240). -/
theorem advanceIngress_inqOverflow {s : State} {rest : List Prim} (hh : s.halted = false)
    (ht : s.ingressTask = .raise .capacityOverflow (some .inqOverflow) :: rest) :
    advanceIngress s =
      { s with err := s.err ||| 0x08#8, raised := s.raised ++ [.capacityOverflow], ingressTask := [] } := by
  rw [advanceIngress_prim hh ht, ingressRest, primState, if_pos (raise_halted s _ (by simp))]
  rfl

/-- A write of INGRESS answered ok leaves its cache update next (43_controller.md R205). -/
theorem advanceIngress_transmit_ok {s : State} {f : Bytes} {c : Caller} {rest : List Prim} (hh : s.halted = false)
    (ht : s.ingressTask = .transmit f c :: rest) (ha : s.answer = .ok) :
    advanceIngress s = { s.transmit f with ingressTask := .cacheWrite f c :: rest } := by
  have hr := txResult_of_ok ha
  rw [advanceIngress_goes_on hh ht (transmit_leaves f c s).err, primState_transmit_ok hr, primThen_transmit_ok hr]
  rfl

/-- The same for SEND's write (43_controller.md R206). -/
theorem advanceSend_transmit_ok {s : State} {f : Bytes} {c : Caller} {rest : List Prim}
    (ht : s.sendTask = .transmit f c :: rest) (ha : s.answer = .ok) :
    advanceSend s = { s.transmit f with sendTask := .cacheWrite f c :: rest } := by
  have hr := txResult_of_ok ha
  rw [advanceSend_prim ht, primState_transmit_ok hr, primThen_transmit_ok hr]
  rfl

/-- The same for the write of the block's own TXFRAME. -/
theorem advanceUnit_transmit_ok {s : State} {f : Bytes} {c : Caller} {rest : List Prim}
    (ht : s.unitTask = .transmit f c :: rest) (ha : s.answer = .ok) :
    advanceUnit s = { s.transmit f with unitTask := .cacheWrite f c :: rest } := by
  have hr := txResult_of_ok ha
  rw [advanceUnit_prim ht, primState_transmit_ok hr, primThen_transmit_ok hr]
  rfl

theorem advanceIngress_dispatch_data {s : State} {f : Bytes} {rest : List Prim} (hh : s.halted = false)
    (ht : s.ingressTask = .dispatch f :: rest) (hc : classify (frameOf f) = .data) :
    advanceIngress s = { s with ingressTask := .pushTest (frameOf f) :: .transmit ackFrame .action :: rest } := by
  rw [advanceIngress_goes_on hh ht rfl, primThen_dispatch_data hc]; rfl

/-- Settles O57: clause by clause, one primitive and what it leaves next; only the raise ends the operation, by halting. -/
theorem primitivesKeepTheOrderOfEffects : Obligations.PrimitivesKeepTheOrderOfEffects := by
  refine ⟨?dispatched, ?tested, ?pushed, ?overflows, ?written, ?cached, ?sent, ?sentCached, ?unitWritten, ?unitCached⟩
  case dispatched => exact fun _ _ _ hh ht hc => advanceIngress_dispatch_data hh ht hc
  case tested => exact fun _ _ _ hh ht => advanceIngress_pushTest hh ht
  case pushed => exact fun _ _ _ hh ht => advanceIngress_goes_on hh ht rfl
  case overflows => exact fun _ _ hh ht => advanceIngress_inqOverflow hh ht
  case written => exact fun _ _ _ _ hh ht ha => advanceIngress_transmit_ok hh ht ha
  case cached => exact fun _ _ _ hh ht => advanceIngress_goes_on hh ht rfl
  case sent => exact fun _ _ _ ht ha => advanceSend_transmit_ok ht ha
  case sentCached => exact fun _ _ _ ht => advanceSend_prim ht
  case unitWritten => exact fun _ _ _ ht ha => advanceUnit_transmit_ok ht ha
  case unitCached => exact fun _ _ _ ht => advanceUnit_prim ht

end Sys2Proof.Machine
end

section
/-! PROOF. The class table of 30_encoding.md R94, read as equivalences, and the exact match of the control frames (R93, R95). -/

namespace Sys2Proof.Machine

/-! ### The control frames among the CRC-valid frames -/

/-- A CRC-valid frame's last byte is the CRC of the others (41_codec.md R155). -/
theorem frameBytes_of_validate {fr : Frame} (hv : validate fr = true) :
    frameBytes fr = crcInput fr ++ [crc8 (crcInput fr)] := by
  have hc : crc8 (crcInput fr) = fr.crc := by simpa [validate] using hv
  rw [frameBytes, hc]

/-- A CRC-valid frame is the encoder's frame exactly when the length and the padded payload agree; the CRC bytes then do. -/
theorem frameBytes_eq_buildFrame_iff {fr : Frame} (hv : validate fr = true) (len : Byte) (p : Bytes) :
    frameBytes fr = buildFrame len p ↔ fr.length = len ∧ fr.payload = padded p := by
  rw [frameBytes_of_validate hv, buildFrame]
  constructor
  · intro h
    exact List.cons.inj (List.append_inj_left' h rfl)
  · rintro ⟨rfl, hp⟩
    rw [crcInput, hp]

theorem frameBytes_eq_retxFrame_iff {fr : Frame} (hv : validate fr = true) :
    frameBytes fr = retxFrame ↔ fr.length = 0x01#8 ∧ fr.payload = 0x19#8 :: rep 15 0xFF#8 :=
  frameBytes_eq_buildFrame_iff hv _ _

theorem frameBytes_eq_ackFrame_iff {fr : Frame} (hv : validate fr = true) :
    frameBytes fr = ackFrame ↔ fr.length = 0x01#8 ∧ fr.payload = 0x15#8 :: rep 15 0xFF#8 :=
  frameBytes_eq_buildFrame_iff hv _ _

theorem ackFrame_ne_retxFrame : ackFrame ≠ retxFrame := by
  rw [ackFrame_bytes, retxFrame_bytes]; decide

/-! ### The classes of the CRC-valid frames -/

theorem classify_of_validate {fr : Frame} (hv : validate fr = true) :
    classify fr = if frameBytes fr = retxFrame then .retx else if frameBytes fr = ackFrame then .ack else .data :=
  if_pos hv

theorem classify_eq_retx_iff {fr : Frame} (hv : validate fr = true) : classify fr = .retx ↔ frameBytes fr = retxFrame := by
  rw [classify_of_validate hv]; split_ifs <;> simp [*, ackFrame_ne_retxFrame]

/-- The two control frames differ, so testing for RETX first takes nothing from ACK. -/
theorem classify_eq_ack_iff {fr : Frame} (hv : validate fr = true) : classify fr = .ack ↔ frameBytes fr = ackFrame := by
  rw [classify_of_validate hv]; split_ifs <;> simp [*, ackFrame_ne_retxFrame.symm]

theorem classify_eq_data_iff {fr : Frame} (hv : validate fr = true) :
    classify fr = .data ↔ ¬(frameBytes fr = retxFrame ∨ frameBytes fr = ackFrame) := by
  rw [classify_of_validate hv]; split_ifs <;> simp [*]

/-- Settles O28: the class is decided by the whole wire form, and the CRC byte of a valid frame adds no condition. -/
theorem controlFramesAreExactMatches : Obligations.ControlFramesAreExactMatches := by
  intro fr _ hv
  rw [classify_eq_retx_iff hv, classify_eq_ack_iff hv, classify_eq_data_iff hv, frameBytes_eq_retxFrame_iff hv,
    frameBytes_eq_ackFrame_iff hv, and_or_left]
  exact ⟨.rfl, .rfl, .rfl⟩

/-! ### ENCODE of the sentinels -/

/-- A pure operation of APP_SEND runs whenever its operands are admitted (20_memory.md R68). -/
theorem attempt_pure_appTurn {s : State} {adm : Bool} (wait run : State → State) (ht : s.appTurn) (ha : adm = true) :
    s.attempt .pure adm wait run = run s := by
  obtain ⟨hi, hs⟩ := ht
  have hp : (OpGroup.pure.permits s.issuer && adm) = true := by rw [hi, ha]; rfl
  have hr : OpGroup.pure.ready s = true := by simp [OpGroup.ready, State.issuerIdle, hi, hs]
  exact attempt_runs wait run hp hr

/-- ENCODE of an admitted pair returns the encoder's frame (41_codec.md R150). -/
theorem exec_encode_appTurn {s : State} {len : Byte} {p : Bytes} (ht : s.appTurn) (ha : encodeAdmits len p = true) :
    exec (.encode len p) s = .next (s.ret (.frame18 (buildFrame len p))) :=
  congrArg Host.Outcome.next (attempt_pure_appTurn _ _ ht ha)

/-- Settles O27: the bytes by evaluation; ENCODE's frame for a sentinel is the control frame by definition. -/
theorem controlFramesHaveTheirBytes : Obligations.ControlFramesHaveTheirBytes :=
  ⟨ackFrame_bytes, retxFrame_bytes, fun _ ht => ⟨exec_encode_appTurn ht rfl, exec_encode_appTurn ht rfl⟩⟩

end Sys2Proof.Machine
end

section
/-! PROOF. The decoder and the encoder undo each other (30_encoding.md R90, R94, R101, R102): wire frames through their class,
commands through the op map. -/

namespace Sys2Proof.Machine

/-! ### Wire frames -/

/-- The wire-frame row of a class (30_encoding.md R103). -/
def wireInstr (fr : Frame) : FrameClass → Instr
  | .corrupt => .rxCorrupt fr
  | .retx => .rxRetx
  | .ack => .rxAck
  | .data => .rxData fr

/-- Eighteen bytes decode to the row of their class, and nothing else decodes as a wire frame. -/
theorem decodeWire_eq_ok {s : Bytes} {i : Instr} :
    decodeWire s = .ok i ↔ isFrame18 s = true ∧ wireInstr (frameOf s) (classify (frameOf s)) = i := by
  unfold decodeWire wireInstr
  cases isFrame18 s <;> cases classify (frameOf s) <;> simp

/-- The wire form of a `Frame` decodes to the row of the frame's class. -/
theorem decode_frameBytes {fr : Frame} (h : fr.wf = true) :
    decode (.wire (frameBytes fr)) = .ok (wireInstr fr (classify fr)) := by
  have hp := (frame_wf_iff fr).1 h
  exact decodeWire_eq_ok.2 ⟨by rw [isFrame18_iff, frameBytes_length, hp], by rw [frameOf_frameBytes fr hp]⟩

theorem decode_retxFrame : decode (.wire retxFrame) = .ok .rxRetx := by
  rw [decode, decodeWire_eq_ok, classify_retxFrame]
  exact ⟨(isFrame18_iff _).2 retxFrame_length, rfl⟩

theorem decode_ackFrame : decode (.wire ackFrame) = .ok .rxAck := by
  rw [decode, decodeWire_eq_ok, classify_ackFrame]
  exact ⟨(isFrame18_iff _).2 ackFrame_length, rfl⟩

theorem wireInstr_classify_wf {fr : Frame} (h : fr.wf = true) : (wireInstr fr (classify fr)).wf = true := by
  cases hc : classify fr <;> simp only [wireInstr, Instr.wf, h, hc] <;> rfl

/-- The row of a frame's class encodes back to the frame; a control class admits only the one frame. -/
theorem encode_wireInstr_classify (fr : Frame) : encode (wireInstr fr (classify fr)) = .wire (frameBytes fr) := by
  cases hc : classify fr with
  | corrupt | data => rfl
  | retx => rw [(classify_retx hc).2]; rfl
  | ack => rw [(classify_ack hc).2]; rfl

/-- Settles O1: an op word by the op map and its operands' check, a wire frame by its class. -/
theorem decodeOfEncodeIsTheInstruction : Obligations.DecodeOfEncodeIsTheInstruction := by
  intro i hwf
  cases i with
  | validate _ | classify _ | push _ => exact takeFrame_eq_ok.2 ⟨hwf, rfl⟩
  | dispatch _ | txframe _ => exact takeFrame18_eq_ok.2 ⟨hwf, rfl⟩
  | rxRetx => exact decode_retxFrame
  | rxAck => exact decode_ackFrame
  | rxCorrupt fr | rxData fr =>
    obtain ⟨hfr, hc⟩ := Bool.and_eq_true_iff.1 hwf
    rw [encode, decode_frameBytes hfr, of_decide_eq_true hc]; rfl
  | _ => rfl

/-- What decodes as a wire frame is well formed and encodes back to its bytes. -/
theorem wf_and_encode_of_decodeWire {s : Bytes} {i : Instr} (h : decodeWire s = .ok i) :
    i.wf = true ∧ encode i = .wire s := by
  obtain ⟨hs, rfl⟩ := decodeWire_eq_ok.1 h
  have hl := (isFrame18_iff s).1 hs
  exact ⟨wireInstr_classify_wf (frameOf_wf s hl), by rw [encode_wireInstr_classify, frameBytes_frameOf s hl]⟩

/-! ### Commands -/

theorem cmd_eq_of_toNat_eq {op k : BitVec 4} (os : List Operand) (h : op.toNat = k.toNat) : Code.cmd k os = .cmd op os := by
  rw [BitVec.eq_of_toNat_eq h]

/-- What decodes as a command is well formed and encodes back to its op and operands, one line of the op map after the other. -/
theorem wf_and_encode_of_decodeCmd {op : BitVec 4} {os : List Operand} {i : Instr} (h : decodeCmd op os = .ok i) :
    i.wf = true ∧ encode i = .cmd op os := by
  unfold decodeCmd at h
  split at h
  case h_5 e | h_6 e | h_12 e =>
    obtain ⟨hfr, rfl⟩ := takeFrame_eq_ok.1 h
    exact ⟨hfr, cmd_eq_of_toNat_eq _ e⟩
  case h_9 e | h_10 e =>
    obtain ⟨hf, rfl⟩ := takeFrame18_eq_ok.1 h
    exact ⟨hf, cmd_eq_of_toNat_eq _ e⟩
  case h_17 => cases h
  all_goals cases h; exact ⟨rfl, cmd_eq_of_toNat_eq _ ‹op.toNat = _›⟩

/-- Settles O2: format by format. -/
theorem decodeIsInjectiveAndWellFormed : Obligations.DecodeIsInjectiveAndWellFormed := by
  intro c i h
  cases c with
  | cmd op os => exact wf_and_encode_of_decodeCmd h
  | wire s => exact wf_and_encode_of_decodeWire h

/-! ### Opcode-table words -/

/-- A table word's operation is what the encoding it stands for decodes to. -/
theorem decodeTableWord_eq_some {nbits w : Nat} {i : Instr} :
    decodeTableWord nbits w = some i ↔ ∃ c, codeOfTableWord nbits w = some c ∧ decode c = .ok i := by
  unfold decodeTableWord
  cases codeOfTableWord nbits w with
  | none => simp
  | some c => cases hd : decode c <;> simp [hd]

/-- A 144-bit word is the wire frame of its bytes (30_encoding.md R90). -/
theorem decodeTableWord_wire {w : Nat} {f : Bytes} {i : Instr} (hw : bytesOfTableValue w = f)
    (hd : decode (.wire f) = .ok i) : decodeTableWord 144 w = some i :=
  decodeTableWord_eq_some.2 ⟨.wire f, congrArg (fun bs => some (Code.wire bs)) hw, hd⟩

/-- Settles O3: the op words by evaluation, the control frames by their bytes. -/
theorem tableWordsDecode : Obligations.TableWordsDecode := by
  refine ⟨rfl, rfl, rfl, rfl, rfl, rfl, rfl, ?retx, ?ack⟩
  case retx => exact decodeTableWord_wire (by rw [retxFrame_bytes]; decide) decode_retxFrame
  case ack => exact decodeTableWord_wire (by rw [ackFrame_bytes]; decide) decode_ackFrame

theorem withFetchWord_eq {s : State} {nbits w : Nat} {c : Code} {i : Instr} (hc : codeOfTableWord nbits w = some c)
    (hi : decodeTableWord nbits w = some i) :
    s.withFetchWord nbits w = { s with inputs := .issue (properIssuer i) c :: s.inputs } := by
  simp only [State.withFetchWord, placeTableWord, hc, hi]

/-- Settles O7: the placed command is the next input, and taking it off leaves the inputs as they were. -/
theorem placedTableWordRunsNext : Obligations.PlacedTableWordRunsNext := by
  intro s nbits w i hi
  obtain ⟨c, hc, hd⟩ := decodeTableWord_eq_some.1 hi
  rw [withFetchWord_eq hc hi, step_issue rfl hd]; rfl

end Sys2Proof.Machine
end

section
/-! PROOF. The refusals of 30_encoding.md R102. -/

namespace Sys2Proof.Machine

/-- An operation its issuer may not issue is refused, whatever its operands (60_exceptions.md R265). -/
theorem attempt_not_permitted {s : State} {g : OpGroup} {adm : Bool} (wait run : State → State)
    (h : g.permits s.issuer = false) : s.attempt g adm wait run = s.refusedWith5 :=
  attempt_refused wait run (by rw [h, Bool.false_and])

/-- The internal operations are the block's alone (30_encoding.md R101). -/
theorem exec_internal_refused {i : Instr} {s : State} {a : Agent} (hi : isInternal i = true) (ha : s.issuer = .agent a) :
    exec i s = .next s.refusedWith5 := by
  cases i with
  | slice | dispatch _ | txframe _ | push _ =>
    exact congrArg Host.Outcome.next (attempt_not_permitted _ _ (by rw [ha]; rfl))
  | _ => cases hi

theorem exec_rxchunk_refused {bs : Bytes} {s : State} (h : s.issuer ≠ .agent .transport) :
    exec (.rxchunk bs) s = .next s.refusedWith5 :=
  congrArg Host.Outcome.next (attempt_not_permitted _ _ (by simpa [OpGroup.permits] using h))

/-- Settles O4: the reserved codes by definition, the issuers by admission, the operands by the decoder. -/
theorem illegalCommandsAreRefused : Obligations.IllegalCommandsAreRefused := by
  refine ⟨fun _ => ⟨rfl, rfl⟩, fun _ _ _ hi ha => exec_internal_refused hi ha, fun _ _ h => exec_rxchunk_refused h, ?_⟩
  intro s who op os e rest h _ hd
  rw [step_reject (head?_inputs h) hd, State.issuedBy, popInput_eq h]; rfl

end Sys2Proof.Machine
end

section
/-! PROOF. The laws of CRC8 (40_checksum.md R130 to R133): its loop, linearity over XOR and the self-check. -/

namespace Sys2Proof.Machine

/-! ### One more byte -/

@[simp] theorem crc8_nil : crc8 [] = 0x00#8 := rfl

theorem crc8_append_singleton (bs : Bytes) (b : Byte) : crc8 (bs ++ [b]) = crcByte (crc8 bs) b := crc8_append bs [b]

/-- The accumulator starts at 0, so a single byte goes through the rounds as it is. -/
theorem crc8_singleton (b : Byte) : crc8 [b] = crcRounds 8 b := congrArg (crcRounds 8) BitVec.zero_xor

/-- Settles O16: CRC8 is a pure operation of APP_SEND; its loop and its round are those of the definition. -/
theorem crc8ReturnsTheChecksum : Obligations.Crc8ReturnsTheChecksum :=
  ⟨fun _ _ ht => congrArg Host.Outcome.next (attempt_pure_appTurn _ _ ht rfl), crc8_nil, crc8_append_singleton, fun _ => rfl⟩

/-- Settles O19: a byte's eight rounds depend on accumulator XOR byte only; the rows by evaluation. -/
theorem crcGoesByThePerByteTable : Obligations.CrcGoesByThePerByteTable := by
  refine ⟨fun bs b => ?_, by decide, by decide⟩
  rw [crc8_append_singleton, crc8_singleton, crcByte]

/-! ### Linearity over XOR -/

/-- Linearity from any two accumulators, the form the induction over the bytes takes. -/
theorem crcFrom_xorBytes (a b : Byte) {xs ys : Bytes} (h : xs.length = ys.length) :
    crcFrom (a ^^^ b) (xorBytes xs ys) = crcFrom a xs ^^^ crcFrom b ys := by
  induction xs generalizing a b ys with
  | nil => rw [List.length_eq_zero_iff.1 h.symm]; rfl
  | cons x xs ih =>
    cases ys with
    | nil => cases h
    | cons y ys =>
      rw [xorBytes, List.zipWith_cons_cons, crcFrom_cons, crcByte_xor]
      exact ih _ _ (Nat.succ.inj h)

/-- Settles O17: the initial accumulator is 0, its own XOR with itself. -/
theorem crcIsLinearOverXor : Obligations.CrcIsLinearOverXor := fun _ _ h => crcFrom_xorBytes 0x00#8 0x00#8 h

/-! ### The rounds as an invertible map -/

theorem crcRounds_eq_iterate (n : Nat) : crcRounds n = crcRound^[n] := by
  induction n with
  | zero => rfl
  | succ n ih => funext a; rw [crcRounds, ih, Function.iterate_succ_apply]

theorem crcRounds_add (m n : Nat) (a : Byte) : crcRounds (m + n) a = crcRounds m (crcRounds n a) := by
  simp only [crcRounds_eq_iterate, Function.iterate_add_apply]

/-- The round loses nothing: bit 0 of `POLY` is set, so bit 0 of the result tells whether bit 7 was shifted out. -/
theorem eq_zero_of_crcRound_eq_zero : ∀ a : Byte, crcRound a = 0x00#8 → a = 0x00#8 := by decide

theorem crcRound_injective : Function.Injective crcRound := fun a b h =>
  BitVec.xor_eq_zero_iff.1 (eq_zero_of_crcRound_eq_zero _ (by rw [crcRound_xor, h, BitVec.xor_self]))

theorem crcRounds_injective (n : Nat) : Function.Injective (crcRounds n) := by
  rw [crcRounds_eq_iterate]; exact crcRound_injective.iterate n

@[simp] theorem crcRounds_zero (n : Nat) : crcRounds n 0x00#8 = 0x00#8 := by
  rw [crcRounds_eq_iterate]; exact Function.iterate_fixed rfl n

/-- A byte clears the accumulator exactly when it equals it. -/
theorem crcByte_eq_zero_iff {acc b : Byte} : crcByte acc b = 0x00#8 ↔ acc = b := by
  rw [crcByte, ← BitVec.xor_eq_zero_iff (x := acc)]
  exact ⟨fun h => crcRounds_injective 8 (h.trans (crcRounds_zero 8).symm), fun h => by rw [h, crcRounds_zero]⟩

/-- Settles O18: the appended byte equals the accumulator. -/
theorem crcSelfCheckIsZero : Obligations.CrcSelfCheckIsZero := fun bs =>
  (crc8_append_singleton bs _).trans (crcByte_eq_zero_iff.2 rfl)

end Sys2Proof.Machine
end

section
/-! PROOF. Bit errors of a valid frame (40_checksum.md R134). A frame is valid exactly when the CRC8 of all its 18 bytes is 0; a
flipped bit XORs into that CRC8 its syndrome, a power of the round; three syndromes never cancel because the round keeps the parity
of the bits, and two cancel only at a multiple of the round's period on 0x01, which is 127. -/

namespace Sys2Proof.Machine

/-! ### Validity as a zero CRC8 -/

theorem validate_frameOf_iff {f : Bytes} (hf : f.length = 18) : validate (frameOf f) = true ↔ crc8 f = 0x00#8 := by
  conv_rhs => rw [← frameBytes_frameOf f hf, frameBytes, crc8_append_singleton, crcByte_eq_zero_iff]
  exact beq_iff_eq

theorem validate_frameOf_eq_false_iff {f : Bytes} (hf : f.length = 18) :
    validate (frameOf f) = false ↔ crc8 f ≠ 0x00#8 := by
  rw [← Bool.not_eq_true, validate_frameOf_iff hf]

/-! ### The syndrome of a flipped bit -/

@[simp] theorem flipBit_length (k : Nat) (f : Bytes) : (flipBit k f).length = f.length := List.length_modify _ _ _

/-- A difference in the accumulator goes through the rounds of all the bytes. -/
theorem crcFrom_xor (a d : Byte) (bs : Bytes) :
    crcFrom (a ^^^ d) bs = crcFrom a bs ^^^ crcRounds (8 * bs.length) d := by
  induction bs generalizing a d with
  | nil => rfl
  | cons b bs ih =>
    have hb : crcByte (a ^^^ d) b = crcByte a b ^^^ crcRounds 8 d := by
      rw [crcByte, BitVec.xor_assoc, BitVec.xor_comm d, ← BitVec.xor_assoc, crcRounds_xor, crcByte]
    rw [crcFrom_cons, hb, ih, ← crcRounds_add, List.length_cons, Nat.mul_succ, crcFrom_cons]

/-- A difference in byte n goes through the rounds of that byte and of those after it. -/
theorem crcFrom_modify_xor (acc e : Byte) {n : Nat} {bs : Bytes} (hn : n < bs.length) :
    crcFrom acc (bs.modify n (· ^^^ e)) = crcFrom acc bs ^^^ crcRounds (8 * (bs.length - n)) e := by
  induction bs generalizing acc n with
  | nil => cases hn
  | cons b bs ih =>
    cases n with
    | zero =>
      have hb : crcByte acc (b ^^^ e) = crcByte (acc ^^^ e) b := by
        rw [crcByte, BitVec.xor_comm b, ← BitVec.xor_assoc, crcByte]
      rw [List.modify_zero_cons, crcFrom_cons, hb, ← crcFrom_cons, crcFrom_xor, Nat.sub_zero]
    | succ n =>
      rw [List.modify_succ_cons, crcFrom_cons, ih _ (Nat.lt_of_succ_lt_succ hn), crcFrom_cons, List.length_cons,
        Nat.succ_sub_succ]

/-- What flipping bit k of a frame XORs into its CRC8: bit 143, the last, gives eight rounds of 0x01, each bit before it one more. -/
def bitSyndrome (k : Nat) : Byte := crcRounds (151 - k) 0x01#8

theorem msb_shiftRight_eq_crcRounds : ∀ r < 8, 0x80#8 >>> r = crcRounds (7 - r) 0x01#8 := by decide

theorem crc8_flipBit {k : Nat} {f : Bytes} (hf : f.length = 18) (hk : k < 144) :
    crc8 (flipBit k f) = crc8 f ^^^ bitSyndrome k := by
  have hr : 8 * (f.length - k / 8) + (7 - k % 8) = 151 - k := by omega
  rw [flipBit, crc8, crcFrom_modify_xor _ _ (by omega), msb_shiftRight_eq_crcRounds _ (Nat.mod_lt k (by decide)),
    ← crcRounds_add, hr, bitSyndrome, crc8]

/-! ### Parity: one and three bits -/

/-- Whether an odd number of the n low bits of a byte are set. -/
def oddBelow (a : Byte) : Nat → Bool
  | 0 => false
  | n + 1 => oddBelow a n ^^ a.getLsbD n

theorem oddBelow_xor (a b : Byte) (n : Nat) : oddBelow (a ^^^ b) n = (oddBelow a n ^^ oddBelow b n) := by
  induction n with
  | zero => rfl
  | succ n ih => simp only [oddBelow, ih, BitVec.getLsbD_xor, Bool.xor_assoc, Bool.xor_left_comm]

/-- Whether an odd number of the bits of a byte are set. -/
def oddParity (a : Byte) : Bool := oddBelow a 8

theorem oddParity_xor (a b : Byte) : oddParity (a ^^^ b) = (oddParity a ^^ oddParity b) := oddBelow_xor a b 8

/-- `x + 1` divides the polynomial: with the bit shifted out, `POLY` has an even number of set bits. -/
theorem oddParity_crcRound : ∀ a : Byte, oddParity (crcRound a) = oddParity a := by decide

theorem oddParity_crcRounds (n : Nat) (a : Byte) : oddParity (crcRounds n a) = oddParity a := by
  induction n generalizing a with
  | zero => rfl
  | succ n ih => rw [crcRounds, ih, oddParity_crcRound]

@[simp] theorem oddParity_bitSyndrome (k : Nat) : oddParity (bitSyndrome k) = true := oddParity_crcRounds _ _

theorem ne_zero_of_oddParity {a : Byte} (h : oddParity a = true) : a ≠ 0x00#8 := by
  rintro rfl; cases h

/-- Settles O20: an odd number of syndromes has odd parity, so their XOR is not 0. -/
theorem oneAndThreeBitErrorsAreDetected : Obligations.OneAndThreeBitErrorsAreDetected := by
  intro f hf hv
  rw [isFrame18_iff] at hf
  have hz : crc8 f = 0x00#8 := (validate_frameOf_iff hf).1 hv
  refine ⟨fun i hi => ?_, fun i j k hij hjk hk => ?_⟩ <;>
    refine (validate_frameOf_eq_false_iff (by simpa)).2 (ne_zero_of_oddParity ?_)
  · rw [crc8_flipBit hf hi, hz, oddParity_xor, oddParity_bitSyndrome]; rfl
  · rw [crc8_flipBit (by simpa) hk, crc8_flipBit (by simpa) (by omega), crc8_flipBit hf (by omega), hz]
    simp only [oddParity_xor, oddParity_bitSyndrome]; rfl

/-! ### Period: two bits -/

/-- The round comes back to 0x01 after 127 rounds, and 127 is prime, so not earlier. -/
theorem minimalPeriod_crcRound_one : Function.minimalPeriod crcRound 0x01#8 = 127 := by
  have : Fact (Nat.Prime 127) := ⟨by norm_num⟩
  exact Function.minimalPeriod_eq_prime (by decide +kernel : crcRound^[127] 0x01#8 = 0x01#8)
    (by decide : crcRound 0x01#8 ≠ 0x01#8)

theorem crcRounds_one_eq_one_iff (n : Nat) : crcRounds n 0x01#8 = 0x01#8 ↔ 127 ∣ n := by
  rw [crcRounds_eq_iterate, ← minimalPeriod_crcRound_one]
  exact Function.isPeriodicPt_iff_minimalPeriod_dvd

theorem bitSyndrome_eq_iff {i j : Nat} (hij : i < j) (hj : j < 144) : bitSyndrome i = bitSyndrome j ↔ j = i + 127 := by
  have hr : 151 - i = 151 - j + (j - i) := by omega
  calc bitSyndrome i = bitSyndrome j
    _ ↔ crcRounds (j - i) 0x01#8 = 0x01#8 := by
      rw [bitSyndrome, hr, crcRounds_add, bitSyndrome, (crcRounds_injective _).eq_iff]
    _ ↔ 127 ∣ j - i := crcRounds_one_eq_one_iff _
    _ ↔ j = i + 127 := by omega

/-- Settles O21: the frame stays valid exactly when the two syndromes cancel. -/
theorem twoBitErrorsEscapeOnlyAtDistance127 : Obligations.TwoBitErrorsEscapeOnlyAtDistance127 := by
  intro f hf hv i j hij hj
  rw [isFrame18_iff] at hf
  have hz : crc8 f = 0x00#8 := (validate_frameOf_iff hf).1 hv
  rw [validate_frameOf_iff (by simpa), crc8_flipBit (by simpa) hj, crc8_flipBit hf (by omega), hz, BitVec.zero_xor,
    BitVec.xor_eq_zero_iff, bitSyndrome_eq_iff hij hj]

end Sys2Proof.Machine
end

section
/-! PROOF. The Frame Codec's operations as APP_SEND's pure operations, and the laws of the encoder (41_codec.md R150 to R156). -/

namespace Sys2Proof.Machine

/-! ### The fields of an encoded frame -/

/-- The record of the frame the encoder makes of a pair (41_codec.md R150, R152). -/
def encodedRecord (len : Byte) (p : Bytes) : Frame :=
  { length := len, payload := padded p, crc := crc8 (len :: padded p) }

theorem buildFrame_eq_frameBytes (len : Byte) (p : Bytes) : buildFrame len p = frameBytes (encodedRecord len p) := rfl

/-- Decoding undoes encoding (41_codec.md R152). -/
theorem frameOf_buildFrame (len : Byte) {p : Bytes} (hp : p.length ≤ 16) :
    frameOf (buildFrame len p) = encodedRecord len p :=
  frameOf_frameBytes (encodedRecord len p) (padded_length p hp)

theorem validate_encodedRecord (len : Byte) (p : Bytes) : validate (encodedRecord len p) = true := beq_self_eq_true _

/-- Between the payload's end and offset 16 the encoder writes padding (41_codec.md R152). -/
theorem padded_getD_padding {p : Bytes} {j : Nat} (hp : p.length ≤ j) (hj : j < 16) : (padded p).getD j 0x00#8 = 0xFF#8 := by
  rw [padded, List.getD_append_right _ _ _ _ hp]
  exact List.getD_replicate _ (Nat.sub_lt_sub_right hp hj)

theorem buildFrame_getD_padding (len : Byte) {p : Bytes} {k : Nat} (hp : p.length + 1 ≤ k) (hk : k < 17) :
    (buildFrame len p).getD k 0x00#8 = 0xFF#8 := by
  obtain ⟨j, rfl⟩ : ∃ j, k = j + 1 := ⟨k - 1, by omega⟩
  have hj : j < (padded p).length := by rw [padded_length p (by omega)]; omega
  calc (buildFrame len p).getD (j + 1) 0x00#8
      = (padded p ++ [crc8 (len :: padded p)]).getD j 0x00#8 := rfl
    _ = (padded p).getD j 0x00#8 := List.getD_append _ _ _ _ hj
    _ = 0xFF#8 := padded_getD_padding (by omega) (by omega)

/-- Settles O23: the encoder's frame is the wire form of its record, whose CRC byte is computed over the other fields. -/
theorem encodedFramesMeetTheEncoderLaws : Obligations.EncodedFramesMeetTheEncoderLaws := by
  intro len p ha
  obtain ⟨-, -, hp, -⟩ := (encodeAdmits_iff len p).1 ha
  have hrec := frameOf_buildFrame len hp
  have hcrc : (buildFrame len p).getD 17 0x00#8 = crc8 (len :: padded p) := congrArg Frame.crc hrec
  refine ⟨buildFrame_length len p hp, rfl, fun _ => buildFrame_getD_padding len, ?_, ?_⟩
  · rw [hrec, hcrc]; rfl
  · rw [hrec, validate_encodedRecord]

/-! ### Refused operands -/

/-- An operation whose operands are not admitted is refused, whoever issues it (60_exceptions.md R265). -/
theorem attempt_not_admissible {s : State} {g : OpGroup} {adm : Bool} (wait run : State → State) (ha : adm = false) :
    s.attempt g adm wait run = s.refusedWith5 :=
  attempt_refused wait run (by rw [ha, Bool.and_false])

theorem encodeAdmits_eq_false_iff (len : Byte) (p : Bytes) :
    encodeAdmits len p = false ↔ len.toNat < 1 ∨ 16 < len.toNat ∨ 16 < p.length ∨ len.toNat < p.length := by
  rw [← Bool.not_eq_true, encodeAdmits_iff]; omega

/-- Settles O22: ENCODE returns the encoder's frame of an admitted pair, and the pairs it refuses are all the others. -/
theorem encodeReturnsTheFrame : Obligations.EncodeReturnsTheFrame := by
  refine ⟨fun len p s ht hmin hmax hp => ?_, fun len p s hbad => ?_⟩
  · exact exec_encode_appTurn ht ((encodeAdmits_iff len p).2 ⟨hmin, hmax, hp.trans hmax, hp⟩)
  · exact congrArg Host.Outcome.next (attempt_not_admissible _ _ ((encodeAdmits_eq_false_iff len p).2 hbad))

/-- Settles O24: DECODE returns the extracted fields of 18 bytes, and no other number of bytes is admitted. -/
theorem decodeExtractsTheFields : Obligations.DecodeExtractsTheFields :=
  ⟨fun bs _ ht hbs => congrArg Host.Outcome.next (attempt_pure_appTurn _ _ ht ((isFrame18_iff bs).2 hbs)),
    fun _ _ hbs => congrArg Host.Outcome.next (attempt_not_admissible _ _ (decide_eq_false hbs))⟩

/-! ### Validation and classification -/

theorem validate_eq_decide (fr : Frame) : validate fr = decide (crc8 ([fr.length] ++ fr.payload) = fr.crc) :=
  beq_eq_decide _ _

/-- Settles O25: VALIDATE is a pure operation of APP_SEND that returns the comparison. -/
theorem validateComparesTheCrc : Obligations.ValidateComparesTheCrc := by
  intro fr s ht hw
  rw [← validate_eq_decide]
  exact congrArg Host.Outcome.next (attempt_pure_appTurn _ _ ht hw)

/-- The priority of 41_codec.md R156, CORRUPT first. -/
theorem classify_eq_priority (fr : Frame) :
    classify fr =
      if crc8 ([fr.length] ++ fr.payload) ≠ fr.crc then .corrupt
      else if [fr.length] ++ fr.payload ++ [fr.crc] = retxFrame then .retx
      else if [fr.length] ++ fr.payload ++ [fr.crc] = ackFrame then .ack
      else .data := by
  have hv := validate_eq_decide fr
  by_cases hc : crc8 ([fr.length] ++ fr.payload) = fr.crc
  · rw [classify_of_validate (hv.trans (decide_eq_true hc)), if_neg (not_not.2 hc)]; rfl
  · rw [classify, hv, decide_eq_false hc, if_pos hc]; rfl

/-- Settles O26: CLASSIFY is a pure operation of APP_SEND that returns the first class that fits. -/
theorem classifyFollowsThePriority : Obligations.ClassifyFollowsThePriority := by
  intro fr s ht hw
  rw [← classify_eq_priority]
  exact congrArg Host.Outcome.next (attempt_pure_appTurn _ _ ht hw)

end Sys2Proof.Machine
end

section
/-! PROOF. An encoded frame end to end: one chunk is one DISPATCH, a data frame is queued and acknowledged, RECV returns it. -/

namespace Sys2Proof.Machine

/-- A chunk that is one frame is dispatched, and nothing is left of it (42_assembler.md R180, R181). -/
theorem rxchunk_one_frame {f : Bytes} {s : State} (hf : f.length = 18) (hr : s.rxbuf = []) (hh : s.halted = false)
    (hfits : s.rxbufFits f = true) : rxchunk f s = dispatch f s := by
  have hslice : (s.rxAppend f).canSlice = true := (canSlice_iff _).2 ⟨by simp [hr, hf], hh⟩
  have hhead : (s.rxAppend f).rxHead = f := by simp [State.rxHead, hr, hf]
  have htake : (s.rxAppend f).rxTake = s := by cases s; cases hr; simp [State.rxAppend, State.rxTake, hf]
  have hstop : (dispatch f s).canSlice = false :=
    (canSlice_eq_false_iff _).2 (.inl (by rw [(dispatch_outside f s).rxbuf, hr]; decide))
  rw [rxchunk, if_pos hfits, hr, hf]
  exact (drain_slices hslice 17).trans (by rw [hhead, htake, drain_stops hstop])

/-- A data frame that INQ takes is queued, and the ACK that answers it is written and cached (43_controller.md R204). -/
theorem dispatch_data_acknowledged {f : Bytes} {s : State} (hc : classify (frameOf f) = .data) (hq : s.inqFits = true)
    (ha : s.answer = .ok) :
    dispatch f s = ({ s with inq := s.inq ++ [frameOf f] } : State).afterWrite ackFrame .ok := by
  have hd : dispatch f s = actData (frameOf f) s := by rw [dispatch, hc]
  rw [hd, actData_fits _ hq, ha]; rfl

/-- A chunk of one data frame offered between ingress events is queued and acknowledged in one step (42_assembler.md R180). -/
theorem stepOn_chunkInput_data {f : Bytes} {s : State} (hd : s.Drained) (hf : f.length = 18) (hr : s.rxbuf = [])
    (hfits : s.rxbufFits f = true) (hc : classify (frameOf f) = .data) (hq : s.inqFits = true) (ha : s.answer = .ok) :
    stepOn (chunkInput f) s =
      ({ s.issuing (.agent .transport) with inq := s.inq ++ [frameOf f] } : State).afterWrite ackFrame .ok := by
  rw [hd.stepOn_chunkInput f, rxchunk_one_frame (s := s.issuing _) hf hr hd.unhalted hfits]
  exact dispatch_data_acknowledged hc hq ha

/-- RECV pops the oldest entry of INQ and returns it (44_queue.md R241). -/
theorem exec_recv_head {s : State} {fr : Frame} {rest : List Frame} (hi : s.issuer = .agent .appRecv)
    (hw : s.recvWait = false) (hq : s.inq = fr :: rest) : exec .recv s = .next (popTo s.issuer fr s) := by
  have hadm : (OpGroup.recv.permits s.issuer && !s.recvWait) = true := by rw [hi, hw]; rfl
  rw [exec, execRecv, attempt_runs _ _ hadm rfl, recvIssue, hq]

theorem stepOn_recvInput_head {s : State} {fr : Frame} {rest : List Frame} (hw : s.recvWait = false)
    (hq : s.inq = fr :: rest) : stepOn recvInput s = popTo (.agent .appRecv) fr (s.issuing (.agent .appRecv)) :=
  Host.Outcome.next.inj (exec_recv_head (s := s.issuing (.agent .appRecv)) rfl hw hq)

/-- Among the encoder's frames all but the two control frames are of class DATA (30_encoding.md R94). -/
theorem classify_buildFrame_data {len : Byte} {p : Bytes} (hp : p.length ≤ 16) (hack : buildFrame len p ≠ ackFrame)
    (hretx : buildFrame len p ≠ retxFrame) : classify (frameOf (buildFrame len p)) = .data := by
  rw [frameOf_buildFrame len hp, classify_eq_data_iff (validate_encodedRecord len p), ← buildFrame_eq_frameBytes]
  exact not_or_intro hretx hack

/-- Settles O53: the chunk is one DISPATCH of a data frame, which leaves its record as INQ's only entry, and RECV pops it. -/
theorem encodedDataIsDeliveredAndAcknowledged : Obligations.EncodedDataIsDeliveredAndAcknowledged := by
  intro len p s hadm hack hretx hh hi ho hpar hr hq hw ha
  obtain ⟨-, -, hp, -⟩ := (encodeAdmits_iff len p).1 hadm
  have hdrained : s.Drained := ⟨hh, hi, ho, by rw [hpar]; rfl, by rw [hr]; decide⟩
  have hfits : s.rxbufFits (buildFrame len p) = true := by rw [State.rxbufFits, hpar]; rfl
  have hqfits : s.inqFits = true := by rw [State.inqFits, hpar]; rfl
  have hchunk := stepOn_chunkInput_data hdrained (buildFrame_length len p hp) hr hfits
    (classify_buildFrame_data hp hack hretx) hqfits ha
  rw [frameOf_buildFrame len hp, hq, List.nil_append] at hchunk
  have hrecv := stepOn_recvInput_head (s := stepOn (chunkInput (buildFrame len p)) s) (fr := encodedRecord len p)
    (rest := []) (by rw [hchunk]; exact hw) (by rw [hchunk]; rfl)
  rw [runInputs_cons, runInputs_cons, hrecv, hchunk]
  exact ⟨rfl, rfl, rfl⟩

end Sys2Proof.Machine
end

section
/-! PROOF. The Stream Assembler's operations (42_assembler.md R180, R181, R184): SLICE, RXCHUNK one frame at a time, and chunk
boundaries. DISPATCH neither reads nor writes RXBUF or the issuer, so the loop commutes with bytes that arrive behind it. -/

namespace Sys2Proof.Machine

/-- Settles O32: with a whole frame buffered SLICE is admitted, and INGRESS is between operations and not halted. -/
theorem sliceTakesTheFirst18Bytes : Obligations.SliceTakesTheFirst18Bytes := by
  intro s ⟨hi, ht, hh⟩ hlen
  have hadm : (OpGroup.ingress.permits s.issuer && s.rxReady) = true := by rw [hi, (rxReady_iff s).2 hlen]; rfl
  exact congrArg Host.Outcome.next (attempt_runs _ _ hadm ((ingress_ready_iff s).2 ⟨hh, ht⟩))

/-! ### DISPATCH beside RXBUF and the issuer -/

theorem SameOutside.outsideOf_eq {s t : State} (h : SameOutside s t) : t.outsideOf s = t := by
  obtain ⟨hp, hr, hw, ho, hi, hin, hret, ht, hs, hu⟩ := h
  rw [State.outsideOf, ← hp, ← hr, ← hw, ← ho, ← hi, ← hin, ← hret, ← ht, ← hs, ← hu]

theorem dispatch_withIssuer (f : Bytes) (s : State) (who : Issuer) :
    dispatch f { s with issuer := who } = { dispatch f s with issuer := who } := by
  rw [← (dispatch_outside f s).outsideOf_eq]
  exact dispatch_outsideOf f s { s with issuer := who }

theorem dispatch_withRxbuf (f : Bytes) (s : State) (rx : Bytes) :
    dispatch f { s with rxbuf := rx } = { dispatch f s with rxbuf := rx } := by
  rw [← (dispatch_outside f s).outsideOf_eq]
  exact dispatch_outsideOf f s { s with rxbuf := rx }

theorem dispatch_rxAppend (f b : Bytes) (s : State) : dispatch f (s.rxAppend b) = (dispatch f s).rxAppend b := by
  rw [State.rxAppend, dispatch_withRxbuf, State.rxAppend, (dispatch_outside f s).rxbuf]

/-! ### The drain loop run to its end -/

/-- The drain loop of 42_assembler.md R180, at the bound RXCHUNK gives it. -/
def State.drainAll (s : State) : State := drain s.rxbuf.length s

theorem drainAll_stops {s : State} (h : s.canSlice = false) : s.drainAll = s := drain_stops h _

theorem drainAll_slices {s : State} (h : s.canSlice = true) : s.drainAll = (dispatch s.rxHead s.rxTake).drainAll :=
  drain_unroll h

theorem rxAppend_rxAppend (s : State) (a b : Bytes) : (s.rxAppend a).rxAppend b = s.rxAppend (a ++ b) :=
  congrArg (fun rx => { s with rxbuf := rx }) (List.append_assoc s.rxbuf a b)

/-- Bytes that arrive behind a whole frame leave the frame RxTake returns as it is. -/
theorem rxHead_rxAppend {s : State} (h : 18 ≤ s.rxbuf.length) (b : Bytes) : (s.rxAppend b).rxHead = s.rxHead :=
  List.take_append_of_le_length h

theorem rxTake_rxAppend {s : State} (h : 18 ≤ s.rxbuf.length) (b : Bytes) : (s.rxAppend b).rxTake = s.rxTake.rxAppend b :=
  congrArg (fun rx => { s with rxbuf := rx }) (List.drop_append_of_le_length h)

/-- Draining again once more bytes have arrived gives what one drain after them gives, whatever passes came before. -/
theorem drain_rxAppend_drainAll (n : Nat) (s : State) (b : Bytes) :
    ((drain n s).rxAppend b).drainAll = (s.rxAppend b).drainAll := by
  induction n generalizing s with
  | zero => rfl
  | succ n ih =>
    cases h : s.canSlice with
    | false => rw [drain_stops h]
    | true =>
      obtain ⟨h18, hh⟩ := (canSlice_iff s).1 h
      have more : (s.rxAppend b).canSlice = true :=
        (canSlice_iff _).2 ⟨by rw [State.rxAppend_rxbuf, List.length_append]; omega, hh⟩
      rw [drain_slices h, ih, drainAll_slices more, rxHead_rxAppend h18, rxTake_rxAppend h18, dispatch_rxAppend]

theorem drainAll_rxAppend_drainAll (s : State) (b : Bytes) : (s.drainAll.rxAppend b).drainAll = (s.rxAppend b).drainAll :=
  drain_rxAppend_drainAll _ s b

/-! ### RXCHUNK -/

theorem rxchunk_fits {bs : Bytes} {s : State} (h : s.rxbufFits bs = true) : rxchunk bs s = (s.rxAppend bs).drainAll := by
  rw [rxchunk, if_pos h, State.drainAll, State.rxAppend_rxbuf, List.length_append]

theorem rxchunk_overflows {bs : Bytes} {s : State} (h : s.rxbufFits bs = false) :
    rxchunk bs s = { s with err := s.err ||| 0x04#8, raised := s.raised ++ [.capacityOverflow] } := by
  rw [rxchunk, h]; rfl

/-- An empty chunk that fits only runs the loop. -/
theorem rxchunk_nil {s : State} (h : s.rxbufFits [] = true) : rxchunk [] s = s.drainAll := by
  rw [rxchunk_fits h, State.rxAppend, List.append_nil]

/-- A chunk INGRESS can take is taken at once and as one step (42_assembler.md R180). -/
theorem exec_rxchunk_chunkTurn {s : State} (ht : s.chunkTurn) (he : s.params.atomicity = .event) (bs : Bytes) :
    exec (.rxchunk bs) s = .next (rxchunk bs s) := by
  obtain ⟨hi, hready⟩ := ht
  have hadm : (OpGroup.chunk.permits s.issuer && true) = true := by rw [hi]; rfl
  rw [exec, execRxchunk, attempt_runs _ _ hadm ((chunk_ready_iff s).2 hready), ingressEvent, startIngress_event he]

/-- DISPATCH issued by the block between operations runs as one step. -/
theorem exec_dispatch_unitTurn {s : State} {f : Bytes} (ht : s.unitTurn) (he : s.params.atomicity = .event)
    (hf : f.length = 18) : exec (.dispatch f) s = .next (dispatch f s) := by
  obtain ⟨hi, htask, hh⟩ := ht
  have hadm : (OpGroup.ingress.permits s.issuer && isFrame18 f) = true := by rw [hi, (isFrame18_iff f).2 hf]; rfl
  rw [exec, execDispatch, attempt_runs _ _ hadm ((ingress_ready_iff s).2 ⟨hh, htask⟩), startIngress_event he]

/-- One pass of RXCHUNK: the first 18 bytes are dispatched with the rest left in RXBUF, and the loop goes on from there. -/
theorem rxchunk_first_frame {bs f rest : Bytes} {s : State} (hfits : s.rxbufFits bs = true) (hh : s.halted = false)
    (hcut : s.rxbuf ++ bs = f ++ rest) (hf : f.length = 18) :
    rxchunk bs s = (dispatch f { s with rxbuf := rest }).drainAll := by
  have hrx : s.rxAppend bs = { s with rxbuf := f ++ rest } := by rw [State.rxAppend, hcut]
  have hslice : ({ s with rxbuf := f ++ rest } : State).canSlice = true := (canSlice_iff _).2 ⟨by simp [hf], hh⟩
  have hhead : ({ s with rxbuf := f ++ rest } : State).rxHead = f := List.take_left' hf
  have htake : ({ s with rxbuf := f ++ rest } : State).rxTake = { s with rxbuf := rest } :=
    congrArg (fun rx => { s with rxbuf := rx }) (List.drop_left' hf)
  rw [rxchunk_fits hfits, hrx, drainAll_slices hslice, hhead, htake]

/-- The loop goes on as RXCHUNK of an empty chunk, unless ingress is halted. -/
theorem next_drainAll {t : State} (hi : t.issuer = .agent .transport) (ht : t.ingressTask = []) (ho : t.offered = [])
    (he : t.params.atomicity = .event) (hfits : t.rxbufFits [] = true) :
    Host.Outcome.next t.drainAll = if t.halted = true then .next t else exec (.rxchunk []) t := by
  split
  case isTrue hh => rw [drainAll_stops ((canSlice_eq_false_iff t).2 (.inr hh))]
  case isFalse hh =>
    rw [exec_rxchunk_chunkTurn ⟨hi, Bool.eq_false_iff.2 hh, ht, ho⟩ he, rxchunk_nil hfits]

/-- RXCHUNK with a whole frame buffered: the first 18 bytes are dispatched with the rest left in RXBUF, and unless that halts
ingress the loop goes on as on an empty chunk, for which the rest is no more than RXBUF already had room for. -/
theorem exec_rxchunk_first_frame {bs f rest : Bytes} {s : State} (ht : s.chunkTurn) (he : s.params.atomicity = .event)
    (hfits : s.rxbufFits bs = true) (hcut : s.rxbuf ++ bs = f ++ rest) (hf : f.length = 18) :
    exec (.rxchunk bs) s =
      if (dispatch f { s with rxbuf := rest }).halted = true then .next (dispatch f { s with rxbuf := rest })
      else exec (.rxchunk []) (dispatch f { s with rxbuf := rest }) := by
  have ⟨hi, hh, htask, ho⟩ := ht
  rw [exec_rxchunk_chunkTurn ht he, rxchunk_first_frame hfits hh hcut hf]
  have out := dispatch_outside f { s with rxbuf := rest }
  have hlen : s.rxbuf.length + bs.length = f.length + rest.length := by simpa using congrArg List.length hcut
  have hrest : (dispatch f { s with rxbuf := rest }).rxbufFits [] = true := by
    rw [State.rxbufFits, out.params, out.rxbuf]
    exact fits_mono (by simp [hlen]) hfits
  exact next_drainAll (out.issuer.trans hi) (out.ingressTask.trans htask) (out.offered.trans ho)
    ((congrArg Params.atomicity out.params).trans he) hrest

/-- Settles O29: beyond the capacity the overflow is raised; short of a frame the loop stops at once; else its first pass is the
DISPATCH of the first 18 bytes, which does the same whoever issued the operation. -/
theorem rxchunkAppendsAndDrains : Obligations.RxchunkAppendsAndDrains := by
  intro bs s ht he
  refine ⟨fun c hc hlt => ?_, fun hfits hshort => ?_, fun hfits f rest t hcut hf hd => ?_⟩
  · have hover : s.rxbufFits bs = false := by rw [State.rxbufFits, hc]; exact decide_eq_false (by omega)
    rw [exec_rxchunk_chunkTurn ht he, rxchunk_overflows hover]
  · have hstop : (s.rxAppend bs).canSlice = false := (canSlice_eq_false_iff _).2 (.inl (by simpa using hshort))
    rw [exec_rxchunk_chunkTurn ht he, rxchunk_fits hfits, drainAll_stops hstop, State.rxAppend]
  · have ⟨_, hh, htask, _⟩ := ht
    have hturn : ({ s with rxbuf := rest, issuer := .block } : State).unitTurn := ⟨rfl, htask, hh⟩
    rw [exec_dispatch_unitTurn hturn he hf] at hd
    have hback : { t with issuer := s.issuer } = dispatch f { s with rxbuf := rest } := by
      rw [← Host.Outcome.next.inj hd]
      exact (dispatch_withIssuer f { s with rxbuf := rest, issuer := .block } s.issuer).symm
    have hhalted : t.halted = (dispatch f { s with rxbuf := rest }).halted := by rw [← hback]; rfl
    rw [hback, hhalted]
    exact exec_rxchunk_first_frame ht he hfits hcut hf

/-- RXCHUNK leaves TRANSPORT able to offer the next chunk unless it halts ingress. -/
theorem rxchunk_keepsTurn {bs : Bytes} {s : State} (ht : s.chunkTurn) (hh : (rxchunk bs s).halted = false) :
    (rxchunk bs s).chunkTurn ∧ (rxchunk bs s).params = s.params := by
  obtain ⟨hi, -, htask, ho⟩ := ht
  obtain ⟨kp, -, ko, ki, -, -, kt, -, -⟩ := drain_keeps (s.rxbuf.length + bs.length) (s.rxAppend bs)
  rw [← rxchunk_unhalted hh] at kp ko ki kt
  exact ⟨⟨ki.trans hi, hh, kt.trans htask, ko.trans ho⟩, kp⟩

theorem rxbufFits_unbounded {s : State} (h : s.params.rxbufCap = none) (bs : Bytes) : s.rxbufFits bs = true := by
  rw [State.rxbufFits, h]; rfl

/-- Settles O31: both are one drain of everything received, since draining between the two parts changes nothing for the
later drain. -/
theorem chunkBoundariesDoNotMatter : Obligations.ChunkBoundariesDoNotMatter := by
  intro a b s t ht he hcap hexec hh
  rw [exec_rxchunk_chunkTurn ht he] at hexec
  cases hexec
  obtain ⟨hturn, hpar⟩ := rxchunk_keepsTurn ht hh
  rw [exec_rxchunk_chunkTurn ht he, exec_rxchunk_chunkTurn hturn (by rw [hpar, he]),
    rxchunk_fits (rxbufFits_unbounded hcap _), rxchunk_fits (rxbufFits_unbounded (by rw [hpar, hcap]) _),
    rxchunk_fits (rxbufFits_unbounded hcap a), drainAll_rxAppend_drainAll, rxAppend_rxAppend]

end Sys2Proof.Machine
end

section
/-! PROOF. The reset state meets the invariant (10_state.md section 2, 43_controller.md R208). -/

namespace Sys2Proof.Machine

theorem reset_elementsOk : State.reset.elementsOk where
  cacheFrame _ h := nomatch h
  queueData _ h := nomatch h
  logFrames _ h := nomatch h
  errReserved := rfl
  errRxbuf _ := rfl
  errInq _ := rfl
  rxbufCapacity := rfl
  inqCapacity := rfl

/-- Settles O10: the elements are right, nothing is in progress, RXBUF is empty, and nothing was written or cached. -/
theorem resetStateMeetsTheInvariant : Obligations.ResetStateMeetsTheInvariant :=
  .of_idle reset_elementsOk rfl (fun _ => by decide) rfl

end Sys2Proof.Machine
end

section
/-! PROOF. The Retransmission Controller's operations (43_controller.md R200 to R206): each runs as one step when the block, or
APP_SEND, is between operations, and leaves what its frame action or its write leaves. -/

namespace Sys2Proof.Machine

/-! ### Frame actions -/

/-- An admitted operation of INGRESS's activity runs between INGRESS's operations. -/
theorem attempt_ingress_unitTurn {s : State} {adm : Bool} (wait run : State → State) (ht : s.unitTurn) (ha : adm = true) :
    s.attempt .ingress adm wait run = run s := by
  obtain ⟨hi, htask, hh⟩ := ht
  have hadm : (OpGroup.ingress.permits s.issuer && adm) = true := by rw [hi, ha]; rfl
  exact attempt_runs wait run hadm ((ingress_ready_iff s).2 ⟨hh, htask⟩)

/-- Under ATOMICITY = event it does so as one step (20_memory.md R67). -/
theorem attempt_startIngress_unitTurn {s : State} {adm : Bool} (wait : State → State) (ps : List Prim) (whole : State → State)
    (ht : s.unitTurn) (he : s.params.atomicity = .event) (ha : adm = true) :
    s.attempt .ingress adm wait (fun st => st.startIngress ps whole) = whole s :=
  (attempt_ingress_unitTurn wait _ ht ha).trans (startIngress_event he ps whole)

theorem exec_rxCorrupt_unitTurn {fr : Frame} {s : State} (ht : s.unitTurn) (he : s.params.atomicity = .event)
    (hw : fr.wf = true) (hc : classify fr = .corrupt) : exec (.rxCorrupt fr) s = .next (actCorrupt s) :=
  congrArg Host.Outcome.next (attempt_startIngress_unitTurn _ _ _ ht he (by rw [hw, hc]; rfl))

theorem exec_rxRetx_unitTurn {s : State} (ht : s.unitTurn) (he : s.params.atomicity = .event) :
    exec .rxRetx s = .next (actRetx s) :=
  congrArg Host.Outcome.next (attempt_startIngress_unitTurn _ _ _ ht he rfl)

theorem exec_rxData_unitTurn {fr : Frame} {s : State} (ht : s.unitTurn) (he : s.params.atomicity = .event)
    (hw : fr.wf = true) (hc : classify fr = .data) : exec (.rxData fr) s = .next (actData fr s) :=
  congrArg Host.Outcome.next (attempt_startIngress_unitTurn _ _ _ ht he (by rw [hw, hc]; rfl))

/-- A length beyond a finite capacity does not fit (00_scope.md R8). -/
theorem fits_some_eq_false {c n : Nat} (h : c < n) : fits (some c) n = false := decide_eq_false (Nat.not_le.2 h)

/-- Settles O34: the operation runs ACT_CORRUPT. -/
theorem corruptFrameIsAnsweredWithRetx : Obligations.CorruptFrameIsAnsweredWithRetx := by
  intro fr s ht he hw hc
  rw [exec_rxCorrupt_unitTurn ht he hw hc, actCorrupt_eq]

/-- Settles O35: the operation runs ACT_RETX, which goes by the cache. -/
theorem retxRetransmitsTheCache : Obligations.RetxRetransmitsTheCache := by
  intro s ht he
  rw [exec_rxRetx_unitTurn ht he]
  exact ⟨fun hc => by rw [actRetx_none hc], fun c hc => by rw [actRetx_some hc]⟩

/-- Settles O36: the operation runs ACT_ACK, which is no change, in either atomicity. -/
theorem ackChangesNothing : Obligations.AckChangesNothing := fun _ ht =>
  congrArg Host.Outcome.next (attempt_ingress_unitTurn _ actAck ht rfl)

/-- Settles O37: the operation runs ACT_DATA, which goes by INQ_CAP. -/
theorem dataFrameIsQueuedThenAcknowledged : Obligations.DataFrameIsQueuedThenAcknowledged := by
  intro fr s ht he hw hc
  rw [exec_rxData_unitTurn ht he hw hc]
  refine ⟨fun hfits => by rw [actData_fits fr hfits], fun c hcap hlt => ?_⟩
  rw [actData_overflows fr (by rw [hcap]; exact fits_some_eq_false hlt)]

/-! ### DISPATCH by the class of the frame -/

theorem dispatch_of_corrupt {f : Bytes} (hc : classify (frameOf f) = .corrupt) (s : State) : dispatch f s = actCorrupt s := by
  rw [dispatch, hc]

theorem dispatch_of_retx {f : Bytes} (hc : classify (frameOf f) = .retx) (s : State) : dispatch f s = actRetx s := by
  rw [dispatch, hc]

theorem dispatch_of_ack {f : Bytes} (hc : classify (frameOf f) = .ack) (s : State) : dispatch f s = s := by
  rw [dispatch, hc, actAck]

theorem dispatch_of_data {f : Bytes} (hc : classify (frameOf f) = .data) (s : State) :
    dispatch f s = actData (frameOf f) s := by rw [dispatch, hc]

/-- Settles O33: DISPATCH runs as one step and is the action of the frame's class. -/
theorem dispatchTakesTheClassAction : Obligations.DispatchTakesTheClassAction := by
  intro f s ht he hf
  rw [exec_dispatch_unitTurn ht he hf]
  refine ⟨fun hc => ?corrupt, fun hc hn => ?retxEmpty, fun c hc hs => ?retxCached, fun hc => ?ack, fun hc hfits => ?data,
    fun hc hfull => ?overflow⟩
  case corrupt => rw [dispatch_of_corrupt hc, actCorrupt_eq]
  case retxEmpty => rw [dispatch_of_retx hc, actRetx_none hn]
  case retxCached => rw [dispatch_of_retx hc, actRetx_some hs]
  case ack => rw [dispatch_of_ack hc]
  case data => rw [dispatch_of_data hc, actData_fits _ hfits]
  case overflow => rw [dispatch_of_data hc, actData_overflows _ hfull]

/-! ### TXFRAME and SEND -/

/-- The block's own TXFRAME runs as one step between its TXFRAMEs, halted or not (43_controller.md R205). -/
theorem exec_txframe_writerTurn {f : Bytes} {s : State} (ht : s.writerTurn) (he : s.params.atomicity = .event)
    (hf : f.length = 18) : exec (.txframe f) s = .next ((s.afterWrite f s.answer).ret (.written s.txResult)) := by
  obtain ⟨hi, hu⟩ := ht
  have hadm : (OpGroup.transmit.permits s.issuer && isFrame18 f) = true := by rw [hi, (isFrame18_iff f).2 hf]; rfl
  have hready : OpGroup.transmit.ready s = true := by simp [OpGroup.ready, State.issuerIdle, hi, hu]
  rw [exec, execTxframe, attempt_runs _ _ hadm hready, startUnit_event he, txframe_eq]

/-- Settles O38: one write, by the transport's answer. -/
theorem txframeWritesThenCaches : Obligations.TxframeWritesThenCaches := by
  intro f s ht he hf
  rw [exec_txframe_writerTurn ht he hf, txResult_eq]
  exact ⟨fun ha => by rw [ha]; rfl, fun n ha => by rw [ha]; rfl⟩

/-- An admitted SEND runs as one step between APP_SEND's operations, halted or not (43_controller.md R206). -/
theorem exec_send_appTurn {len : Byte} {p : Bytes} {s : State} (ht : s.appTurn) (he : s.params.atomicity = .event)
    (ha : encodeAdmits len p = true) :
    exec (.send len p) s = .next ((s.afterWrite (buildFrame len p) s.answer).ret (.status (sendStatus s.txResult))) := by
  obtain ⟨hi, hs⟩ := ht
  have hadm : (OpGroup.app.permits s.issuer && encodeAdmits len p) = true := by rw [hi, ha]; rfl
  have hready : OpGroup.app.ready s = true := by simp [OpGroup.ready, State.issuerIdle, hi, hs]
  rw [exec, execSend, attempt_runs _ _ hadm hready, startSend_event he, sendWrite, txframe_eq]

/-- Settles O39: an admitted SEND is one write, its status by the transport's answer; any other is refused. -/
theorem sendTransmitsAndReturnsAStatus : Obligations.SendTransmitsAndReturnsAStatus := by
  intro len p s ht he
  refine ⟨fun hadm ha => ?ok, fun n hadm ha => ?fail, fun hadm => ?refused⟩
  case ok => rw [exec_send_appTurn ht he hadm, txResult_eq, ha]; rfl
  case fail => rw [exec_send_appTurn ht he hadm, txResult_eq, ha]; rfl
  case refused => exact congrArg Host.Outcome.next (attempt_not_admissible _ _ hadm)

end Sys2Proof.Machine
end

section
/-! PROOF. A failed write of a frame action (43_controller.md R210). -/

namespace Sys2Proof.Machine

/-- DISPATCH of fr makes a write: always for CORRUPT, for RETX with a frame cached, for DATA within INQ_CAP
(43_controller.md R201, R202, R204). -/
def State.writesFor (s : State) (fr : Frame) : Prop :=
  classify fr = .corrupt ∨ (classify fr = .retx ∧ s.cache ≠ none) ∨
    (classify fr = .data ∧ fits s.params.inqCap (s.inq.length + 1) = true)

/-- That DISPATCH is one write of a frame action; before it only INQ and the cause trace have changed. -/
theorem dispatch_of_writesFor {f : Bytes} {s : State} (h : s.writesFor (frameOf f)) :
    ∃ g q c, dispatch f s = ({ s with inq := q, raised := c } : State).afterActionWrite g s.answer := by
  obtain hc | ⟨hc, hcache⟩ | ⟨hc, hfits⟩ := h
  · exact ⟨retxFrame, s.inq, s.raised ++ [.checksumMismatch], by rw [dispatch_of_corrupt hc, actCorrupt_eq]⟩
  · obtain ⟨g, hg⟩ := Option.ne_none_iff_exists'.1 hcache
    exact ⟨g, s.inq, s.raised, by rw [dispatch_of_retx hc, actRetx_some hg]⟩
  · exact ⟨ackFrame, s.inq ++ [frameOf f], s.raised, by rw [dispatch_of_data hc, actData_fits _ hfits]⟩

/-- The failure sets ERR[1], so it halts ingress (10_state.md R37). -/
theorem afterActionWrite_fail_halted (s : State) (f : Bytes) (n : Nat) : (s.afterActionWrite f (.fail n)).halted = true :=
  raise_halted (s.afterWrite f (.fail n)) .transportWriteFailure (b := .ingressTxFail) (by simp)

/-- Settles O42: RXCHUNK's first pass is the DISPATCH of the first frame with the rest left in RXBUF, and its failed write halts
ingress, so there is no second pass. -/
theorem failedActionWriteHaltsIngress : Obligations.FailedActionWriteHaltsIngress := by
  intro bs f rest s n ht he hfits hcut hf ha hclass
  have hwrites : ({ s with rxbuf := rest } : State).writesFor (frameOf f) := hclass
  obtain ⟨g, q, c, hd⟩ := dispatch_of_writesFor hwrites
  have hfail : ({ s with rxbuf := rest } : State).answer = .fail n := ha
  rw [hfail] at hd
  have hh : (dispatch f { s with rxbuf := rest }).halted = true := by rw [hd]; exact afterActionWrite_fail_halted _ g n
  refine ⟨dispatch f { s with rxbuf := rest }, ?_, hh, ?_⟩
  · rw [exec_rxchunk_first_frame ht he hfits hcut hf, if_pos hh]
  · rw [hd]
    exact ⟨rfl, rfl, rfl, ⟨g, rfl⟩, List.getLast?_concat⟩

end Sys2Proof.Machine
end

section
/-! PROOF. What DISPATCH reads (43_controller.md R207): two states with the same cache and the same answer to come are taken to
the same cache by the same frame, with the same appended to each trace and to INQ. -/

namespace Sys2Proof.Machine

/-- From x₁ to y₁ and from x₂ to y₂ the same was appended. -/
def GrowAlike {α : Type} (x₁ y₁ x₂ y₂ : List α) : Prop := ∃ w, y₁ = x₁ ++ w ∧ y₂ = x₂ ++ w

theorem GrowAlike.refl {α : Type} (x₁ x₂ : List α) : GrowAlike x₁ x₁ x₂ x₂ :=
  ⟨[], (List.append_nil x₁).symm, (List.append_nil x₂).symm⟩

theorem GrowAlike.trans {α : Type} {x₁ y₁ z₁ x₂ y₂ z₂ : List α} (h : GrowAlike x₁ y₁ x₂ y₂) (k : GrowAlike y₁ z₁ y₂ z₂) :
    GrowAlike x₁ z₁ x₂ z₂ := by
  obtain ⟨v, rfl, rfl⟩ := h
  obtain ⟨w, rfl, rfl⟩ := k
  exact ⟨v ++ w, List.append_assoc .., List.append_assoc ..⟩

/-- From s₁ to t₁ and from s₂ to t₂ the same was appended to TXLOG, to the causes and to INQ, and the caches end equal. -/
structure SameAppends (s₁ t₁ s₂ t₂ : State) : Prop where
  cache : t₁.cache = t₂.cache
  txlog : GrowAlike s₁.txlog t₁.txlog s₂.txlog t₂.txlog
  raised : GrowAlike s₁.raised t₁.raised s₂.raised t₂.raised
  inq : GrowAlike s₁.inq t₁.inq s₂.inq t₂.inq

/-- Within INQ_CAP, ACT_DATA is the push and then the write of ACK_FRAME (20_memory.md R71). -/
theorem actData_of_inqFits {s : State} (h : s.inqFits = true) (fr : Frame) :
    actData fr s = actionWrite ackFrame (s.qPush fr) := by
  rw [actData, pushFrame, if_pos h, if_pos h]

namespace SameAppends

variable {s₁ s₂ : State}

theorem trans {t₁ u₁ t₂ u₂ : State} (h : SameAppends s₁ t₁ s₂ t₂) (k : SameAppends t₁ u₁ t₂ u₂) :
    SameAppends s₁ u₁ s₂ u₂ :=
  ⟨k.cache, h.txlog.trans k.txlog, h.raised.trans k.raised, h.inq.trans k.inq⟩

theorem refl (hc : s₁.cache = s₂.cache) : SameAppends s₁ s₁ s₂ s₂ :=
  ⟨hc, .refl _ _, .refl _ _, .refl _ _⟩

theorem raise (hc : s₁.cache = s₂.cache) (c : Cause) (bit : Option ErrBit) :
    SameAppends s₁ (s₁.raise c bit) s₂ (s₂.raise c bit) :=
  { refl hc with raised := ⟨[c], rfl, rfl⟩ }

theorem qPush (hc : s₁.cache = s₂.cache) (fr : Frame) : SameAppends s₁ (s₁.qPush fr) s₂ (s₂.qPush fr) :=
  { refl hc with inq := ⟨[fr], rfl, rfl⟩ }

theorem actionWrite (hc : s₁.cache = s₂.cache) (ha : s₁.answer = s₂.answer) (f : Bytes) :
    SameAppends s₁ (actionWrite f s₁) s₂ (actionWrite f s₂) := by
  rw [actionWrite_eq, actionWrite_eq, ha]
  cases s₂.answer with
  | ok => exact { refl hc with cache := rfl, txlog := ⟨[(f, .ok)], rfl, rfl⟩ }
  | fail n =>
    exact { refl hc with txlog := ⟨[(f, .fail)], rfl, rfl⟩, raised := ⟨[.transportWriteFailure], rfl, rfl⟩ }

theorem actCorrupt (hc : s₁.cache = s₂.cache) (ha : s₁.answer = s₂.answer) :
    SameAppends s₁ (actCorrupt s₁) s₂ (actCorrupt s₂) :=
  (raise hc .checksumMismatch none).trans (actionWrite (s₁ := s₁.raise _ _) (s₂ := s₂.raise _ _) hc ha retxFrame)

theorem actRetx (hc : s₁.cache = s₂.cache) (ha : s₁.answer = s₂.answer) :
    SameAppends s₁ (actRetx s₁) s₂ (actRetx s₂) := by
  cases h₂ : s₂.cache with
  | none =>
    rw [actRetx_none (hc.trans h₂), actRetx_none h₂]
    exact raise hc .emptyCacheOnRetx (some .emptyCacheRetx)
  | some c =>
    rw [actRetx_some (hc.trans h₂), actRetx_some h₂, ← actionWrite_eq, ← actionWrite_eq]
    exact actionWrite hc ha c

/-- With room in both queues; were only one of them full, INQ would matter. -/
theorem actData (hc : s₁.cache = s₂.cache) (ha : s₁.answer = s₂.answer) (h₁ : s₁.inqFits = true) (h₂ : s₂.inqFits = true)
    (fr : Frame) : SameAppends s₁ (actData fr s₁) s₂ (actData fr s₂) := by
  rw [actData_of_inqFits h₁, actData_of_inqFits h₂]
  exact (qPush hc fr).trans (actionWrite (s₁ := s₁.qPush fr) (s₂ := s₂.qPush fr) hc ha ackFrame)

theorem dispatch (hc : s₁.cache = s₂.cache) (ha : s₁.answer = s₂.answer) (h₁ : s₁.inqFits = true) (h₂ : s₂.inqFits = true)
    (f : Bytes) : SameAppends s₁ (dispatch f s₁) s₂ (dispatch f s₂) := by
  cases hf : classify (frameOf f) with
  | corrupt => rw [dispatch_of_corrupt hf, dispatch_of_corrupt hf]; exact actCorrupt hc ha
  | retx => rw [dispatch_of_retx hf, dispatch_of_retx hf]; exact actRetx hc ha
  | ack => rw [dispatch_of_ack hf, dispatch_of_ack hf]; exact refl hc
  | data => rw [dispatch_of_data hf, dispatch_of_data hf]; exact actData hc ha h₁ h₂ _

end SameAppends

theorem inqFits_unbounded {s : State} (h : s.params.inqCap = none) : s.inqFits = true := by
  rw [State.inqFits, h]; rfl

/-- Settles O40: every class's action appends by the frame, the cache and the answer. -/
theorem dispatchDependsOnFrameAndCacheOnly : Obligations.DispatchDependsOnFrameAndCacheOnly := by
  intro f s₁ s₂ t₁ t₂ u₁ u₂ hf e₁ e₂ hc ha q₁ q₂ x₁ x₂
  rw [exec_dispatch_unitTurn u₁ e₁ ((isFrame18_iff f).1 hf)] at x₁
  rw [exec_dispatch_unitTurn u₂ e₂ ((isFrame18_iff f).1 hf)] at x₂
  cases x₁
  cases x₂
  have same := SameAppends.dispatch hc ha (inqFits_unbounded q₁) (inqFits_unbounded q₂) f
  exact ⟨same.cache, same.txlog, same.raised, same.inq⟩

end Sys2Proof.Machine
end

section
/-! PROOF. Retransmission end to end (95_test_vectors.md S7, 70_reset_and_hazards.md R311): SEND's frame is cached and a RETX
writes it again; a data frame in between leaves ACK_FRAME in the cache instead. -/

namespace Sys2Proof.Machine

/-- Under the default parameters, between ingress events, with nothing buffered: the next frame offered is dispatched whole. -/
structure State.AwaitsFrame (s : State) : Prop where
  unhalted : s.halted = false
  idle : s.ingressTask = []
  noneOffered : s.offered = []
  params : s.params = defaultParams
  empty : s.rxbuf = []

namespace State.AwaitsFrame

variable {s : State} (h : s.AwaitsFrame)
include h

theorem event : s.params.atomicity = .event := by rw [h.params]; rfl

theorem drained : s.Drained := ⟨h.unhalted, h.idle, h.noneOffered, h.event, by rw [h.empty]; decide⟩

theorem rxbufFits (bs : Bytes) : s.rxbufFits bs = true := rxbufFits_unbounded (by rw [h.params]; rfl) bs

theorem inqFits : s.inqFits = true := inqFits_unbounded (by rw [h.params]; rfl)

/-- A frame offered is dispatched at once (42_assembler.md R180). -/
theorem stepOn_chunkInput {f : Bytes} (hf : f.length = 18) :
    stepOn (chunkInput f) s = dispatch f (s.issuing (.agent .transport)) :=
  (h.drained.stepOn_chunkInput f).trans (rxchunk_one_frame (s := s.issuing _) hf h.empty h.unhalted (h.rxbufFits f))

end State.AwaitsFrame

/-- From s to t the one frame g was written with ok and cached, and INGRESS waits for the next frame. -/
structure State.Wrote (s t : State) (g : Bytes) : Prop where
  awaits : t.AwaitsFrame
  cache : t.cache = some g
  txlog : t.txlog = s.txlog ++ [(g, .ok)]
  answers : t.answers = s.answers.tail

/-- The oldest listed draw is the answer (60_exceptions.md R280). -/
theorem answer_of_answers {s : State} {a : Answer} {as : List Answer} (h : s.answers = a :: as) : s.answer = a := by
  rw [State.answer, h]

namespace State.AwaitsFrame

variable {s : State} (h : s.AwaitsFrame)
include h

/-- SEND writes the encoder's frame (43_controller.md R206). -/
theorem wrote_send {len : Byte} {p : Bytes} (hadm : encodeAdmits len p = true) (hs : s.sendTask = []) (ha : s.answer = .ok) :
    s.Wrote (stepOn (sendInput len p) s) (buildFrame len p) := by
  have turn : (s.issuing (.agent .appSend)).appTurn := ⟨rfl, hs⟩
  have answer : (s.issuing (.agent .appSend)).answer = .ok := ha
  have runs := exec_send_appTurn turn h.event hadm
  rw [answer] at runs
  have step : stepOn (sendInput len p) s = _ := Host.Outcome.next.inj runs
  rw [step]
  exact ⟨⟨h.unhalted, h.idle, h.noneOffered, h.params, h.empty⟩, rfl, rfl, rfl⟩

/-- A RETX frame writes the cached frame again (43_controller.md R202). -/
theorem wrote_retx {c : Bytes} (hc : s.cache = some c) (ha : s.answer = .ok) :
    s.Wrote (stepOn (chunkInput retxFrame) s) c := by
  have cached : (s.issuing (.agent .transport)).cache = some c := hc
  have answer : (s.issuing (.agent .transport)).answer = .ok := ha
  rw [h.stepOn_chunkInput retxFrame_length, dispatch_of_retx classify_retxFrame, actRetx_some cached, answer]
  exact ⟨⟨h.unhalted, h.idle, h.noneOffered, h.params, h.empty⟩, rfl, rfl, rfl⟩

/-- A data frame is answered with ACK_FRAME (43_controller.md R204). -/
theorem wrote_ack {f : Bytes} (hf : f.length = 18) (hc : classify (frameOf f) = .data) (ha : s.answer = .ok) :
    s.Wrote (stepOn (chunkInput f) s) ackFrame := by
  rw [stepOn_chunkInput_data h.drained hf h.empty (h.rxbufFits f) hc h.inqFits ha]
  exact ⟨⟨h.unhalted, h.idle, h.noneOffered, h.params, h.empty⟩, rfl, rfl, rfl⟩

end State.AwaitsFrame

/-- Settles O54: the RETX writes the cached frame, which is the one the last write before it left there. -/
theorem retransmissionIsByteForByte : Obligations.RetransmissionIsByteForByte := by
  intro len p s as hadm hh hi hs ho hpar hr
  have h : s.AwaitsFrame := ⟨hh, hi, ho, hpar, hr⟩
  refine ⟨fun hans => ?_, fun f hf hc hans => ?_⟩
  · have send := h.wrote_send hadm hs (answer_of_answers hans)
    have ans := send.answers.trans (congrArg List.tail hans)
    have retx := send.awaits.wrote_retx send.cache (answer_of_answers ans)
    rw [runInputs_cons, runInputs_cons]
    refine retx.txlog.trans ?_
    rw [send.txlog, List.append_assoc]; rfl
  · have send := h.wrote_send hadm hs (answer_of_answers hans)
    have ans := send.answers.trans (congrArg List.tail hans)
    have ack := send.awaits.wrote_ack ((isFrame18_iff f).1 hf) hc (answer_of_answers ans)
    have ans' := ack.answers.trans (congrArg List.tail ans)
    have retx := ack.awaits.wrote_retx ack.cache (answer_of_answers ans')
    rw [runInputs_cons, runInputs_cons, runInputs_cons]
    refine retx.txlog.trans ?_
    rw [ack.txlog, send.txlog, List.append_assoc, List.append_assoc]; rfl

end Sys2Proof.Machine
end

section
/-! PROOF. The Inbound Queue's operations (44_queue.md R240 to R242, R244): PUSH appends, RECV pops the head or suspends, and so
the entries come back in the order they were pushed. -/

namespace Sys2Proof.Machine

/-- PUSH of a DATA frame runs as one step between INGRESS's operations. -/
theorem exec_push_unitTurn {fr : Frame} {s : State} (ht : s.unitTurn) (he : s.params.atomicity = .event)
    (hd : isDataFrame fr = true) : exec (.push fr) s = .next (pushFrame fr s) :=
  congrArg Host.Outcome.next (attempt_startIngress_unitTurn _ _ _ ht he hd)

/-- Settles O44: the operation runs the append or the raise, by INQ_CAP. -/
theorem pushAppendsToTheQueue : Obligations.PushAppendsToTheQueue := by
  intro fr s ht he hw hc
  rw [exec_push_unitTurn ht he (by rw [isDataFrame, hw, hc]; rfl)]
  refine ⟨fun hfits => by rw [pushFrame_fits fr hfits], fun c hcap hlt => ?_⟩
  rw [pushFrame_overflows fr (by rw [hcap]; exact fits_some_eq_false hlt)]

/-! ### RECV's issue and its resume step -/

/-- The tail that QPop leaves is what stands behind the head. -/
theorem popTo_eq {s : State} {fr : Frame} {q : List Frame} (who : Issuer) (hq : s.inq = fr :: q) :
    popTo who fr s = { s with inq := q, returns := s.returns ++ [(who, .frame fr)] } := by
  rw [popTo, State.qPop, hq, List.tail_cons]

theorem exec_recv_nil {s : State} (hi : s.issuer = .agent .appRecv) (hw : s.recvWait = false) (hq : s.inq = []) :
    exec .recv s = .next { s with recvWait := true } := by
  have hadm : (OpGroup.recv.permits s.issuer && !s.recvWait) = true := by rw [hi, hw]; rfl
  rw [exec, execRecv, attempt_runs _ _ hadm rfl, recvIssue, hq]

/-- While a RECV is suspended a further one is refused, whoever issues it (44_queue.md R244). -/
theorem exec_recv_suspended {s : State} (hw : s.recvWait = true) : exec .recv s = .next s.refusedWith5 :=
  congrArg Host.Outcome.next (attempt_not_admissible _ _ (by rw [hw]; rfl))

theorem recvResume_head {s : State} {fr : Frame} {q : List Frame} (hw : s.recvWait = true) (hq : s.inq = fr :: q) :
    recvResume s = { s with recvWait := false, inq := q, returns := s.returns ++ [(.agent .appRecv, .frame fr)] } := by
  simp only [recvResume, hw, hq, popTo_eq _ hq]

theorem recvResume_disabled {s : State} (h : s.recvWait = false ∨ s.inq = []) : recvResume s = s := by
  obtain hw | hq := h
  · simp only [recvResume, hw]
  · cases hw : s.recvWait <;> simp only [recvResume, hw, hq]

/-- Settles O45: the issue by RECV_WAIT and INQ, then the resume step by the same two. -/
theorem recvReturnsTheOldestOrSuspends : Obligations.RecvReturnsTheOldestOrSuspends := by
  refine ⟨fun s fr q hi hw hq => ?head, fun s hi hw hq => exec_recv_nil hi hw hq, fun s _ hw => exec_recv_suspended hw,
    fun s rest fr q hx hw hq => ?resumes, fun s rest hx hd => ?disabled⟩
  case head => rw [exec_recv_head hi hw hq, popTo_eq _ hq]
  case resumes =>
    rw [step_advance (head?_inputs hx), popInput_eq hx]
    exact congrArg Host.Outcome.next (recvResume_head (s := { s with inputs := rest }) hw hq)
  case disabled =>
    rw [step_advance (head?_inputs hx), popInput_eq hx]
    exact congrArg Host.Outcome.next (recvResume_disabled (s := { s with inputs := rest }) hd)

/-! ### A run of PUSHes, then of RECVs -/

theorem decode_push {fr : Frame} (hw : fr.wf = true) : decode (.cmd 0xB#4 [.frame fr]) = .ok (.push fr) :=
  takeFrame_eq_ok.2 ⟨hw, rfl⟩

theorem runInputs_append (xs ys : List Input) (s : State) : runInputs (xs ++ ys) s = runInputs ys (runInputs xs s) :=
  List.foldl_append

theorem stepOn_of_step {x : Input} {s t : State} (h : step { s with inputs := [x] } = .next t) : stepOn x s = t := by
  rw [stepOn, h]

/-- A PUSH of a DATA frame that fits, between INGRESS's operations, appends it. -/
theorem stepOn_pushInput {fr : Frame} {s : State} (hd : isDataFrame fr = true) (hh : s.halted = false)
    (hi : s.ingressTask = []) (he : s.params.atomicity = .event) (hfits : fits s.params.inqCap (s.inq.length + 1) = true) :
    stepOn (pushInput fr) s = { s.issuing .block with inq := s.inq ++ [fr] } := by
  have turn : (s.issuing .block).unitTurn := ⟨rfl, hi, hh⟩
  refine stepOn_of_step ((step_issue rfl (decode_push (Bool.and_eq_true_iff.1 hd).1)).trans ?_)
  exact (exec_push_unitTurn turn he hd).trans (congrArg Host.Outcome.next (pushFrame_fits fr hfits))

/-- PUSHes that fit append their frames in order and return nothing (44_queue.md R240). -/
theorem runInputs_pushes (frs : List Frame) {s : State} (hd : ∀ fr ∈ frs, isDataFrame fr = true) (hh : s.halted = false)
    (hi : s.ingressTask = []) (he : s.params.atomicity = .event)
    (hfits : fits s.params.inqCap (s.inq.length + frs.length) = true) :
    (runInputs (frs.map pushInput) s).inq = s.inq ++ frs ∧
    (runInputs (frs.map pushInput) s).returns = s.returns ∧
    (runInputs (frs.map pushInput) s).recvWait = s.recvWait := by
  induction frs generalizing s with
  | nil => exact ⟨(List.append_nil _).symm, rfl, rfl⟩
  | cons fr frs ih =>
    obtain ⟨hfr, hrest⟩ := List.forall_mem_cons.1 hd
    rw [List.length_cons] at hfits
    have first := stepOn_pushInput hfr hh hi he (fits_mono (by omega) hfits)
    rw [List.map_cons, runInputs_cons, first]
    obtain ⟨hq, hr, hw⟩ := ih (s := { s.issuing .block with inq := s.inq ++ [fr] }) hrest hh hi he
      (by rw [List.length_append, List.length_singleton, Nat.add_assoc, Nat.add_comm 1]; exact hfits)
    exact ⟨hq.trans (List.append_cons ..).symm, hr, hw⟩

/-- As many RECVs as INQ has entries return them all, oldest first (44_queue.md R241). -/
theorem runInputs_recvs (q : List Frame) {s : State} (hw : s.recvWait = false) (hq : s.inq = q) :
    (runInputs (List.replicate q.length recvInput) s).returns =
      s.returns ++ q.map (fun fr => (.agent .appRecv, .frame fr)) ∧
    (runInputs (List.replicate q.length recvInput) s).inq = [] := by
  induction q generalizing s with
  | nil => exact ⟨(List.append_nil _).symm, hq⟩
  | cons fr q ih =>
    have first := stepOn_recvInput_head hw hq
    rw [popTo_eq (s := s.issuing _) _ hq] at first
    rw [List.length_cons, List.replicate_succ, runInputs_cons, first]
    obtain ⟨hr, he⟩ := ih (s := { s.issuing (.agent .appRecv) with
      inq := q, returns := s.returns ++ [(.agent .appRecv, .frame fr)] }) hw rfl
    exact ⟨hr.trans (List.append_cons ..).symm, he⟩

/-- Settles O46: the PUSHes leave the old entries and then the new ones in INQ, and the RECVs take them from the front. -/
theorem queueIsFirstInFirstOut : Obligations.QueueIsFirstInFirstOut := by
  intro frs s hd hh hi he hfits hw
  obtain ⟨hq, hr, hw'⟩ := runInputs_pushes frs hd hh hi he hfits
  have recvs := runInputs_recvs _ (hw'.trans hw) hq
  rwa [hr, List.length_append, ← runInputs_append] at recvs

end Sys2Proof.Machine
end

section
/-! PROOF. A suspended RECV is served (44_queue.md R243): while it waits every step but its own resume keeps it waiting with the
same oldest entry, so under a weakly fair schedule the resume step comes and returns that entry. -/

namespace Sys2Proof.Machine

/-- No assignment of RESET to INQ is in progress. -/
abbrev NoInqClear (task : List Prim) : Prop := Prim.clear .inq ∉ task

/-- A RECV is suspended, fr is the oldest entry, and no RESET in progress is to empty INQ. -/
structure State.Awaits (fr : Frame) (s : State) : Prop where
  recvWait : s.recvWait = true
  head : [fr] <+: s.inq
  ingressTask : NoInqClear s.ingressTask
  sendTask : NoInqClear s.sendTask
  unitTask : NoInqClear s.unitTask

theorem IngressOp.noInqClear {ps : List Prim} {whole : State → State} (op : IngressOp ps whole) : NoInqClear ps := by
  cases op <;> simp [NoInqClear]

/-- A primitive never puts an assignment of RESET next. -/
theorem primThen_noInqClear (p : Prim) (s : State) : NoInqClear (primThen p s) := by
  cases p with
  | rxTest _ | drain | rxTake | dispatch _ | pushTest _ | cacheRead => simp only [primThen]; split <;> simp [NoInqClear]
  | transmit f c =>
    cases hr : s.txResult with
    | ok => simp [primThen_transmit_ok hr, NoInqClear]
    | fail => rw [primThen_transmit_fail hr]; split <;> simp [NoInqClear]
  | rxAppend _ | raise _ _ | qPush _ | cacheWrite _ _ | clear _ => simp [primThen, NoInqClear]

theorem NoInqClear.next {p : Prim} {rest : List Prim} (h : NoInqClear (p :: rest)) (s : State) :
    NoInqClear (primThen p s ++ rest) :=
  List.mem_append.not.2 (not_or_intro (primThen_noInqClear p s) fun hr => h (List.mem_cons_of_mem p hr))

theorem NoInqClear.ingressRest {p : Prim} {rest : List Prim} (h : NoInqClear (p :: rest)) (s : State) :
    NoInqClear (ingressRest p rest s) := by
  unfold Machine.ingressRest
  split
  · exact List.not_mem_nil
  · exact h.next s

/-- Only RECV's own two steps write RECV_WAIT (10_state.md R38). -/
theorem primState_recvWait (p : Prim) (s : State) : (primState p s).recvWait = s.recvWait := by
  cases p with
  | rxTake => simp only [primState]; split <;> rfl
  | transmit f c =>
    simp only [primState]
    split
    · rfl
    · cases c <;> rfl
  | cacheWrite f c => cases c <;> rfl
  | clear e => cases e <;> rfl
  | rxTest _ | rxAppend _ | drain | dispatch _ | raise _ _ | pushTest _ | qPush _ | cacheRead => rfl

/-- Of the primitives only RESET's assignment to INQ takes entries off it. -/
theorem primState_inq_prefix {p : Prim} (hp : p ≠ .clear .inq) (s : State) : s.inq <+: (primState p s).inq := by
  cases p with
  | qPush fr => exact List.prefix_append s.inq [fr]
  | rxTake => simp only [primState]; split <;> exact List.prefix_rfl
  | transmit f c => rw [(transmit_leaves f c s).inq]
  | cacheWrite f c => rw [(cacheWrite_leaves f c s).inq]
  | clear e =>
    cases e with
    | inq => exact absurd rfl hp
    | cache | rxbuf | err | txlog => exact List.prefix_rfl
  | rxTest _ | rxAppend _ | drain | dispatch _ | raise _ _ | pushTest _ | cacheRead => exact List.prefix_rfl

namespace State.Awaits

variable {fr : Frame} {s : State} (h : s.Awaits fr)
include h

theorem resumeEnabled : s.resumeEnabled = true := by
  obtain ⟨q, hq⟩ := h.head
  rw [State.resumeEnabled, h.recvWait, ← hq]; rfl

theorem keeps {t : State} (hw : t.recvWait = s.recvWait) (hq : s.inq <+: t.inq) (k : SameTasks s t) : t.Awaits fr where
  recvWait := hw.trans h.recvWait
  head := h.head.trans hq
  ingressTask := k.ingressTask ▸ h.ingressTask
  sendTask := k.sendTask ▸ h.sendTask
  unitTask := k.unitTask ▸ h.unitTask

theorem returns (r : Result) : (s.ret r).Awaits fr := h.keeps rfl List.prefix_rfl ⟨rfl, rfl, rfl, rfl⟩

theorem txframe (f : Bytes) : (txframe f s).Awaits fr :=
  h.keeps (txframe_outside f s).recvWait (by rw [(txframe_leaves f s).inq]) (txframe_outside f s).sameTasks

/-! ### Operations -/

theorem ingressMove {t : State} (m : IngressMove s t) : t.Awaits fr := by
  cases m with
  | push _ _ => exact h.keeps rfl (List.prefix_append _ _) ⟨rfl, rfl, rfl, rfl⟩
  | write _ => exact h.txframe _
  | raise _ _ | append _ | take => exact h.keeps rfl List.prefix_rfl ⟨rfl, rfl, rfl, rfl⟩

theorem ingressMoves {t : State} (m : IngressMoves s t) : t.Awaits fr :=
  m.has (R := fun s t => s.Awaits fr → t.Awaits fr) (fun _ => id) (fun f g => g ∘ f) (fun m h => h.ingressMove m) h

theorem startIngress {ps : List Prim} {whole : State → State} (op : IngressOp ps whole) :
    (s.startIngress ps whole).Awaits fr :=
  startIngress_ind (P := State.Awaits fr) (fun _ => h.ingressMoves (op.moves s)) fun _ =>
    { h with ingressTask := op.noInqClear }

theorem startSend (f : Bytes) : (s.startSend [.transmit f .send] (sendWrite f)).Awaits fr :=
  startSend_ind (P := State.Awaits fr) (fun _ => (h.txframe f).returns _) fun _ => { h with sendTask := by simp [NoInqClear] }

theorem startUnit (f : Bytes) :
    (s.startUnit [.transmit f .txframe] fun x => (Machine.txframe f x).ret (.written x.txResult)).Awaits fr :=
  startUnit_ind (P := State.Awaits fr) (fun _ => (h.txframe f).returns _) fun _ => { h with unitTask := by simp [NoInqClear] }

/-- An admission keeps what its refusal, its waiting and its run keep. -/
theorem attempt {g : OpGroup} {adm : Bool} {wait run : State → State} (hw : (wait s).Awaits fr)
    (hr : adm = true → (run s).Awaits fr) : (s.attempt g adm wait run).Awaits fr := by
  obtain ⟨-, e⟩ | ⟨-, -, e⟩ | ⟨ha, -, e⟩ := attempt_cases s g adm wait run <;> rw [e]
  · exact h.returns _
  · exact hw
  · exact hr (Bool.and_eq_true_iff.1 ha).2

/-- An operation keeps the RECV waiting; a further RECV and a RESET are refused (44_queue.md R244, 70_reset_and_hazards.md R300). -/
theorem exec {i : Instr} {t : State} (ht : exec i s = .next t) : t.Awaits fr := by
  have busy : ¬(!s.recvWait) = true := by simp [h.recvWait]
  cases i with
  | reset | recv => cases ht; exact h.attempt h fun ha => absurd ha busy
  | rxchunk bs => cases ht; exact h.attempt { h with } fun _ => h.startIngress (.chunk bs)
  | slice => cases ht; exact h.attempt h fun _ => h.keeps rfl List.prefix_rfl ⟨rfl, rfl, rfl, rfl⟩
  | dispatch f => cases ht; exact h.attempt h fun hf => h.startIngress (.dispatch hf)
  | push g => cases ht; exact h.attempt h fun hd => h.startIngress (.push hd)
  | rxCorrupt g => cases ht; exact h.attempt h fun _ => h.startIngress .corrupt
  | rxRetx => cases ht; exact h.attempt h fun _ => h.startIngress .retx
  | rxAck => cases ht; exact h.attempt h fun _ => h
  | rxData g => cases ht; exact h.attempt h fun hd => h.startIngress (.data hd)
  | txframe f => cases ht; exact h.attempt h fun _ => h.startUnit f
  | send len p => cases ht; exact h.attempt h fun _ => h.startSend _
  | reservedE | reservedF => cases ht; exact h.returns _
  | crc8 _ | encode _ _ | decode _ | validate _ | classify _ | readerr =>
    cases ht; exact h.attempt h fun _ => h.returns _

/-! ### Operations in progress -/

theorem primState {p : Prim} (hp : p ≠ .clear .inq) : (primState p s).Awaits fr :=
  h.keeps (primState_recvWait p s) (primState_inq_prefix hp s) (primState_sameTasks p s)

theorem advanceIngress : (advanceIngress s).Awaits fr := by
  unfold Machine.advanceIngress
  split
  · exact h
  · split
    case h_1 p rest ht =>
      have hn : NoInqClear (p :: rest) := ht ▸ h.ingressTask
      exact { h.primState (List.ne_of_not_mem_cons hn).symm with ingressTask := hn.ingressRest s }
    case h_2 =>
      split
      case h_1 bs rest _ =>
        have ho : State.Awaits fr { s with offered := rest } := { h with }
        exact ho.startIngress (.chunk bs)
      case h_2 => exact h

theorem advanceSend : (advanceSend s).Awaits fr := by
  unfold Machine.advanceSend
  split
  case h_1 p rest ht =>
    have hn : NoInqClear (p :: rest) := ht ▸ h.sendTask
    exact { h.primState (List.ne_of_not_mem_cons hn).symm with sendTask := hn.next s }
  case h_2 => exact h

theorem advanceUnit : (advanceUnit s).Awaits fr := by
  unfold Machine.advanceUnit
  split
  case h_1 p rest ht =>
    have hn : NoInqClear (p :: rest) := ht ▸ h.unitTask
    exact { h.primState (List.ne_of_not_mem_cons hn).symm with unitTask := hn.next s }
  case h_2 => exact h

/-! ### Steps of a schedule -/

/-- Every step but RECV's resume keeps the RECV waiting. -/
theorem step {x : Input} {rest : List Input} {t : State} (hi : s.inputs = x :: rest) (hx : x ≠ .advance .appRecv)
    (ht : step s = .next t) : t.Awaits fr := by
  have popped : s.popInput.Awaits fr := { h with }
  have issued (who : Issuer) : (s.issuedBy who).Awaits fr := { h with }
  cases x with
  | issue who c =>
    cases hd : decode c with
    | ok i => rw [step_issue (head?_inputs hi) hd] at ht; exact (issued who).exec ht
    | error e => rw [step_reject (head?_inputs hi) hd] at ht; cases ht; exact (issued who).returns _
  | advance a =>
    rw [step_advance (head?_inputs hi)] at ht
    cases a with
    | ingress => cases ht; exact popped.advanceIngress
    | appSend => cases ht; exact popped.advanceSend
    | appRecv => exact absurd rfl hx
    | transport => cases ht; exact popped
  | advanceUnit => rw [step_advanceUnit (head?_inputs hi)] at ht; cases ht; exact popped.advanceUnit

theorem stepOn {x : Input} (hx : x ≠ .advance .appRecv) : (stepOn x s).Awaits fr := by
  have queued : State.Awaits fr { s with inputs := [x] } := { h with }
  unfold Machine.stepOn
  split
  case h_1 t ht => exact queued.step rfl hx ht
  case h_2 | h_3 => exact h

/-- The resume step returns the oldest entry and ends the wait (44_queue.md R241). -/
theorem stepOn_resume :
    (Machine.stepOn (.advance .appRecv) s).returns = s.returns ++ [(.agent .appRecv, .frame fr)] ∧
      (Machine.stepOn (.advance .appRecv) s).recvWait = false := by
  obtain ⟨q, hq⟩ := h.head
  obtain ⟨-, -, -, resumes, -⟩ := recvReturnsTheOldestOrSuspends
  rw [stepOn_of_step (resumes { s with inputs := [.advance .appRecv] } [] fr q rfl h.recvWait hq.symm)]
  exact ⟨rfl, rfl⟩

end State.Awaits

/-- Without a resume step on the way the RECV waits on. -/
theorem runSchedule_awaits {sched : Nat → Input} {s : State} {fr : Frame} {n m : Nat} (hnm : n ≤ m)
    (h : (runSchedule sched s n).Awaits fr) (hx : ∀ k, n ≤ k → k < m → sched k ≠ .advance .appRecv) :
    (runSchedule sched s m).Awaits fr := by
  induction m, hnm using Nat.le_induction with
  | base => exact h
  | succ m hnm ih =>
    exact (ih fun k hk hkm => hx k hk (hkm.trans m.lt_succ_self)).stepOn (hx m hnm m.lt_succ_self)

/-- A waiting RECV with an entry is enabled as long as it is not resumed, so a weakly fair schedule resumes it. -/
theorem exists_resume {sched : Nat → Input} {s : State} {fr : Frame} {n : Nat} (hfair : WeaklyFair sched s)
    (h : (runSchedule sched s n).Awaits fr) : ∃ m, n ≤ m ∧ sched m = .advance .appRecv := by
  by_contra never
  refine never (hfair.1 n fun m hm => ?_)
  exact (runSchedule_awaits hm h fun k hk _ hx => never ⟨k, hk, hx⟩).resumeEnabled

/-- Settles O47: until the first resume step after n the RECV waits for the same entry, and that step returns it. -/
theorem suspendedRecvIsEventuallyServed : Obligations.SuspendedRecvIsEventuallyServed := by
  intro sched s n fr q hfair hw hq ht
  have noClear : NoInqClear (runSchedule sched s n).tasks := fun hm => ht _ hm rfl
  obtain ⟨⟨hi, hs⟩, hu⟩ : (_ ∧ _) ∧ _ := by simpa only [NoInqClear, State.tasks, List.mem_append, not_or] using noClear
  have waits : (runSchedule sched s n).Awaits fr := ⟨hw, ⟨q, hq.symm⟩, hi, hs, hu⟩
  have resumes := exists_resume hfair waits
  obtain ⟨hnm, hm⟩ := Nat.find_spec resumes
  have still := runSchedule_awaits hnm waits fun k hk hlt hx => Nat.find_min resumes hlt ⟨hk, hx⟩
  refine ⟨Nat.find resumes, hnm, ?_⟩
  rw [runSchedule, hm]
  exact still.stepOn_resume

end Sys2Proof.Machine
end

section
/-! PROOF. No operation and no step ends in a fault or a model refusal (60_exceptions.md R265, R269, R270). -/

namespace Sys2Proof.Machine

/-- Every operation's meaning is one next state. -/
theorem exists_exec_eq_next (i : Instr) (s : State) : ∃ t, exec i s = .next t := by
  cases i <;> exact ⟨_, rfl⟩

/-- A command runs or is refused, and every other input advances what is in progress. -/
theorem exists_step_eq_next (s : State) : ∃ t, step s = .next t := by
  cases hi : s.inputs.head? with
  | none => exact ⟨s, step_none hi⟩
  | some x =>
    cases x with
    | issue who c =>
      cases hd : decode c with
      | ok i => rw [step_issue hi hd]; exact exists_exec_eq_next i _
      | error e => exact ⟨_, step_reject hi hd⟩
    | advance a => rw [step_advance hi]; cases a <;> exact ⟨_, rfl⟩
    | advanceUnit => exact ⟨_, step_advanceUnit hi⟩

/-- Settles O8: operation by operation, then input by input. -/
theorem everyStepHasANextState : Obligations.EveryStepHasANextState := ⟨exists_exec_eq_next, exists_step_eq_next⟩

end Sys2Proof.Machine
end

section
/-! PROOF. READERR (60_exceptions.md R275). -/

namespace Sys2Proof.Machine

/-- An admitted operation of APP_SEND's own runs between its operations, halted or not (10_state.md R44). -/
theorem attempt_app_appTurn {s : State} {adm : Bool} (wait run : State → State) (ht : s.appTurn) (ha : adm = true) :
    s.attempt .app adm wait run = run s := by
  obtain ⟨hi, hs⟩ := ht
  have hp : (OpGroup.app.permits s.issuer && adm) = true := by rw [hi, ha]; rfl
  have hr : OpGroup.app.ready s = true := by simp [OpGroup.ready, State.issuerIdle, hi, hs]
  exact attempt_runs wait run hp hr

/-- Settles O49: READERR runs in every state of that turn, and only returns a value. -/
theorem readerrReturnsErr : Obligations.ReaderrReturnsErr := fun _ ht =>
  congrArg Host.Outcome.next (attempt_app_appTurn _ _ ht rfl)

end Sys2Proof.Machine
end

section
/-! PROOF. The causes one dispatched frame raises (60_exceptions.md R262, R266, R267). -/

namespace Sys2Proof.Machine

/-- The causes a frame can raise on the way from s to t: those of a halt leave t halted, an overflow needs a finite INQ_CAP. -/
inductive FrameCauses (s t : State) : List Cause → Prop
  | nothing : FrameCauses s t []
  | mismatch : FrameCauses s t [.checksumMismatch]
  | mismatchThenFailure (h : t.halted = true) : FrameCauses s t [.checksumMismatch, .transportWriteFailure]
  | failure (h : t.halted = true) : FrameCauses s t [.transportWriteFailure]
  | emptyCache : FrameCauses s t [.emptyCacheOnRetx]
  | overflow (h : t.halted = true) (hc : s.params.inqCap ≠ none) : FrameCauses s t [.capacityOverflow]

/-- A frame action's write raises nothing, or its failure and ingress halts (43_controller.md R210). -/
theorem afterActionWrite_raised (s : State) (f : Bytes) (a : Answer) :
    (s.afterActionWrite f a).raised = s.raised ∨
      ((s.afterActionWrite f a).raised = s.raised ++ [.transportWriteFailure] ∧ (s.afterActionWrite f a).halted = true) := by
  cases a with
  | ok => exact .inl rfl
  | fail n => exact .inr ⟨rfl, afterActionWrite_fail_halted s f n⟩

theorem actCorrupt_causes (s : State) : ∃ w, (actCorrupt s).raised = s.raised ++ w ∧ FrameCauses s (actCorrupt s) w := by
  rw [actCorrupt_eq]
  obtain e | ⟨e, hh⟩ := afterActionWrite_raised { s with raised := s.raised ++ [.checksumMismatch] } retxFrame s.answer
  · exact ⟨_, e, .mismatch⟩
  · exact ⟨_, e.trans (List.append_assoc ..), .mismatchThenFailure hh⟩

theorem actRetx_causes (s : State) : ∃ w, (actRetx s).raised = s.raised ++ w ∧ FrameCauses s (actRetx s) w := by
  cases hc : s.cache with
  | none => rw [actRetx_none hc]; exact ⟨_, rfl, .emptyCache⟩
  | some c =>
    rw [actRetx_some hc]
    obtain e | ⟨e, hh⟩ := afterActionWrite_raised s c s.answer
    · exact ⟨[], by simpa using e, .nothing⟩
    · exact ⟨_, e, .failure hh⟩

theorem actData_causes (fr : Frame) (s : State) :
    ∃ w, (actData fr s).raised = s.raised ++ w ∧ FrameCauses s (actData fr s) w := by
  cases hf : fits s.params.inqCap (s.inq.length + 1) with
  | false =>
    have hh : (s.raise .capacityOverflow (some .inqOverflow)).halted = true := raise_halted s _ (by simp)
    rw [actData_overflows fr hf]
    exact ⟨_, rfl, .overflow hh (Option.isSome_iff_ne_none.1 (cap_isSome_of_not_fits hf))⟩
  | true =>
    rw [actData_fits fr hf]
    obtain e | ⟨e, hh⟩ := afterActionWrite_raised { s with inq := s.inq ++ [fr] } ackFrame s.answer
    · exact ⟨[], by simpa using e, .nothing⟩
    · exact ⟨_, e, .failure hh⟩

/-- DISPATCH raises what its one action raises (43_controller.md R200). -/
theorem dispatch_causes (f : Bytes) (s : State) :
    ∃ w, (dispatch f s).raised = s.raised ++ w ∧ FrameCauses s (dispatch f s) w := by
  cases hc : classify (frameOf f) with
  | corrupt => rw [dispatch_of_corrupt hc]; exact actCorrupt_causes s
  | retx => rw [dispatch_of_retx hc]; exact actRetx_causes s
  | ack => rw [dispatch_of_ack hc]; exact ⟨[], by simp, .nothing⟩
  | data => rw [dispatch_of_data hc]; exact actData_causes _ s

/-- Settles O43: the operation is DISPATCH as one step, and each sequence of causes it can raise is one of those listed. -/
theorem dispatchRaisesTheseCausesOnly : Obligations.DispatchRaisesTheseCausesOnly := by
  intro f s t ht he hf hd
  rw [exec_dispatch_unitTurn ht he hf] at hd
  cases hd
  obtain ⟨w, hw, hc⟩ := dispatch_causes f s
  refine ⟨w, hw, ?_⟩
  cases hc with
  | nothing | mismatch | emptyCache => simp
  | mismatchThenFailure hh | failure hh => simp [hh]
  | overflow hh hcap => simp [hh, hcap]

end Sys2Proof.Machine
end

section
/-! PROOF. What INGRESS's activity leaves alone at the block's boundary: the inbound wire and the values returned. -/

namespace Sys2Proof.Machine

/-- The inbound wire and the values returned are the same in t as in s. -/
structure SameBoundary (s t : State) : Prop where
  offered : t.offered = s.offered
  returns : t.returns = s.returns

theorem SameBoundary.refl (s : State) : SameBoundary s s := ⟨rfl, rfl⟩

theorem SameBoundary.trans {s t u : State} (h : SameBoundary s t) (k : SameBoundary t u) : SameBoundary s u :=
  ⟨k.offered.trans h.offered, k.returns.trans h.returns⟩

theorem SameOutside.sameBoundary {s t : State} (h : SameOutside s t) : SameBoundary s t := ⟨h.offered, h.returns⟩

theorem IngressMove.sameBoundary {s t : State} (m : IngressMove s t) : SameBoundary s t := by
  cases m with
  | write _ => exact (txframe_outside _ s).sameBoundary
  | raise _ _ | append _ | take | push _ _ => exact ⟨rfl, rfl⟩

theorem IngressMoves.sameBoundary {s t : State} (h : IngressMoves s t) : SameBoundary s t :=
  h.has .refl .trans IngressMove.sameBoundary

theorem startIngress_sameBoundary {ps : List Prim} {whole : State → State} (op : IngressOp ps whole) (s : State) :
    SameBoundary s (s.startIngress ps whole) :=
  startIngress_ind (P := SameBoundary s) (fun _ => (op.moves s).sameBoundary) fun _ => ⟨rfl, rfl⟩

end Sys2Proof.Machine
end

section
/-! PROOF. Only a refusal returns 0x5, and a refusal changes nothing else (60_exceptions.md R265). -/

namespace Sys2Proof.Machine

/-- From s to t the issuer is not returned 0x5 alone. -/
abbrev NotRefused (s t : State) : Prop := t.returns ≠ s.returns ++ [(s.issuer, .status 0x05#8)]

theorem NotRefused.silent {s t : State} (h : t.returns = s.returns) : NotRefused s t := by simp [NotRefused, h]

theorem NotRefused.answers {s t : State} {r : Result} (h : t.returns = s.returns ++ [(s.issuer, r)])
    (hr : r ≠ .status 0x05#8) : NotRefused s t := by simp [NotRefused, h, hr]

theorem startIngress_notRefused {ps : List Prim} {whole : State → State} (op : IngressOp ps whole) (s : State) :
    NotRefused s (s.startIngress ps whole) := .silent (startIngress_sameBoundary op s).returns

/-- SEND's statuses are 0x0 and 0x3 (43_controller.md R206). -/
theorem sendStatus_ne_contractViolation (r : TxResult) : sendStatus r ≠ 0x05#8 := by cases r <;> decide

theorem sendWrite_notRefused (f : Bytes) (s : State) : NotRefused s (sendWrite f s) := by
  have out := txframe_outside f s
  refine .answers (r := .status (sendStatus s.txResult)) ?_ (by simpa using sendStatus_ne_contractViolation s.txResult)
  rw [sendWrite, State.ret_returns, out.returns, out.issuer]

theorem txframe_ret_notRefused (f : Bytes) (r : TxResult) (s : State) : NotRefused s ((txframe f s).ret (.written r)) := by
  have out := txframe_outside f s
  exact .answers (r := .written r) (by rw [State.ret_returns, out.returns, out.issuer]) (by simp)

theorem recvIssue_notRefused (s : State) : NotRefused s (recvIssue s) := by
  cases hq : s.inq with
  | nil => exact .silent (by simp [recvIssue, hq])
  | cons fr q => exact .answers (r := .frame fr) (by simp [recvIssue, hq, popTo]) (by simp)

/-- An admission that returns 0x5 refused the operation, if neither waiting nor running returns it. -/
theorem attempt_eq_refusedWith5 {s : State} {g : OpGroup} {adm : Bool} {wait run : State → State}
    (hw : NotRefused s (wait s)) (hr : adm = true → NotRefused s (run s))
    (h : (s.attempt g adm wait run).returns = s.returns ++ [(s.issuer, .status 0x05#8)]) :
    s.attempt g adm wait run = s.refusedWith5 := by
  obtain ⟨-, e⟩ | ⟨-, -, e⟩ | ⟨ha, -, e⟩ := attempt_cases s g adm wait run <;> rw [e] at h ⊢
  · exact absurd h hw
  · exact absurd h (hr (Bool.and_eq_true_iff.1 ha).2)

/-- An operation of INGRESS's activity returns nothing when it runs. -/
theorem attempt_ingress_eq_refusedWith5 {s : State} {adm : Bool} {ps : List Prim} {whole : State → State}
    (op : adm = true → IngressOp ps whole)
    (h : (s.attempt .ingress adm id fun st => st.startIngress ps whole).returns =
      s.returns ++ [(s.issuer, .status 0x05#8)]) :
    (s.attempt .ingress adm id fun st => st.startIngress ps whole) = s.refusedWith5 :=
  attempt_eq_refusedWith5 (.silent rfl) (fun ha => startIngress_notRefused (op ha) s) h

/-- Settles O51: every operation but the reserved codes is an admission, and none that waits or runs returns 0x5. -/
theorem refusedOperationsChangeNothing : Obligations.RefusedOperationsChangeNothing := by
  intro i s t ht h
  have waits : NotRefused s (id s) := .silent rfl
  cases i with
  | reset =>
    cases ht
    refine attempt_eq_refusedWith5 waits (fun _ => ?_) h
    exact startSend_ind (P := NotRefused s) (fun _ => .silent rfl) fun _ => .silent rfl
  | send len p =>
    cases ht
    refine attempt_eq_refusedWith5 waits (fun _ => ?_) h
    exact startSend_ind (P := NotRefused s) (fun _ => sendWrite_notRefused _ s) fun _ => .silent rfl
  | txframe f =>
    cases ht
    refine attempt_eq_refusedWith5 waits (fun _ => ?_) h
    exact startUnit_ind (P := NotRefused s) (fun _ => txframe_ret_notRefused f _ s) fun _ => .silent rfl
  | rxchunk bs =>
    cases ht; exact attempt_eq_refusedWith5 (.silent rfl) (fun _ => startIngress_notRefused (.chunk bs) s) h
  | recv => cases ht; exact attempt_eq_refusedWith5 waits (fun _ => recvIssue_notRefused s) h
  | rxAck => cases ht; exact attempt_eq_refusedWith5 waits (fun _ => .silent rfl) h
  | dispatch f => cases ht; exact attempt_ingress_eq_refusedWith5 .dispatch h
  | push fr => cases ht; exact attempt_ingress_eq_refusedWith5 .push h
  | rxCorrupt fr => cases ht; exact attempt_ingress_eq_refusedWith5 (fun _ => .corrupt) h
  | rxRetx => cases ht; exact attempt_ingress_eq_refusedWith5 (fun _ => .retx) h
  | rxData fr => cases ht; exact attempt_ingress_eq_refusedWith5 .data h
  | reservedE | reservedF => cases ht; rfl
  | crc8 _ | encode _ _ | decode _ | validate _ | classify _ | readerr | slice =>
    cases ht; exact attempt_eq_refusedWith5 waits (fun _ => .answers rfl (by simp)) h

end Sys2Proof.Machine
end

section
/-! PROOF. A pending chunk is taken (60_exceptions.md R271, 92_eei_decisions.md D18): until INGRESS takes it every step leaves it
the oldest one, so under a weakly fair schedule INGRESS's step comes. -/

namespace Sys2Proof.Machine

/-- Under ATOMICITY = event INGRESS is between operations and bs is the oldest pending chunk. -/
structure State.Pending (bs : Bytes) (s : State) : Prop where
  event : s.params.atomicity = .event
  idle : s.ingressTask = []
  oldest : [bs] <+: s.offered

/-- No primitive touches the inbound wire. -/
theorem primState_offered (p : Prim) (s : State) : (primState p s).offered = s.offered := by
  cases p with
  | rxTake => simp only [primState]; split <;> rfl
  | transmit f c => exact (transmit_leaves f c s).offered
  | cacheWrite f c => exact (cacheWrite_leaves f c s).offered
  | clear e => cases e <;> rfl
  | rxTest _ | rxAppend _ | drain | dispatch _ | raise _ _ | pushTest _ | qPush _ | cacheRead => rfl

/-- Between operations and not halted, INGRESS's step is the event on the oldest pending chunk. -/
theorem advanceIngress_chunk {s : State} {bs : Bytes} {more : List Bytes} (hh : s.halted = false) (hi : s.ingressTask = [])
    (ho : s.offered = bs :: more) : advanceIngress s = ingressEvent bs { s with offered := more } := by
  simp [advanceIngress, hh, hi, ho]

theorem KeepsOffered.offered_prefix {s t : State} (h : KeepsOffered s t) : s.offered <+: t.offered := by
  obtain e | ⟨bs, e⟩ := h <;> rw [e]
  exact List.prefix_append _ _

namespace State.Pending

variable {bs : Bytes} {s : State} (h : s.Pending bs)
include h

theorem keeps {t : State} (hp : t.params = s.params) (ht : t.ingressTask = s.ingressTask) (ho : s.offered <+: t.offered) :
    t.Pending bs := ⟨hp ▸ h.event, ht.trans h.idle, h.oldest.trans ho⟩

theorem keeps_of_leavesIngress {t : State} (l : LeavesIngress s t) : t.Pending bs :=
  h.keeps l.params l.ingressTask (by rw [l.offered])

theorem keeps_of_quiet {t : State} (q : Quiet s t) (ho : KeepsOffered s t) : t.Pending bs :=
  h.keeps q.params q.ingressTask ho.offered_prefix

theorem effect {t : State} (e : Effect s t) : t.Pending bs := by
  cases e with
  | quiet q ho => exact h.keeps_of_quiet q ho
  | slices _ _ => exact { h with }
  | ingress _ _ op =>
    rw [startIngress_event h.event]
    have moves := op.moves s
    exact h.keeps moves.sameTasks.params moves.sameTasks.ingressTask (by rw [moves.sameBoundary.offered])
  | sends _ => exact h.keeps_of_leavesIngress (startSend_leaves _ s)
  | writes _ => exact h.keeps_of_leavesIngress (startUnit_leaves _ s)

/-- RESET does not touch the inbound wire (60_exceptions.md R271). -/
theorem startReset : s.startReset.Pending bs := by
  rw [State.startReset, startSend_event h.event]; exact { h with }

theorem primState (p : Prim) : (primState p s).Pending bs :=
  h.keeps (primState_sameTasks p s).params (primState_sameTasks p s).ingressTask (by rw [primState_offered])

theorem advanceSend : (advanceSend s).Pending bs := by
  unfold Machine.advanceSend
  split
  case h_1 p rest _ => exact { h.primState p with }
  case h_2 => exact h

theorem advanceUnit : (advanceUnit s).Pending bs := by
  unfold Machine.advanceUnit
  split
  case h_1 p rest _ => exact { h.primState p with }
  case h_2 => exact h

/-- INGRESS's step takes the chunk off the wire (42_assembler.md R180). -/
theorem advanceIngress_takes (hh : s.halted = false) : (advanceIngress s).offered = s.offered.tail := by
  obtain ⟨more, ho⟩ := h.oldest
  rw [advanceIngress_chunk hh h.idle ho.symm, ← ho]
  exact (startIngress_sameBoundary (.chunk bs) { s with offered := more }).offered

/-- Every step keeps the chunk pending, but INGRESS's, which takes it. -/
theorem step {t : State} (hh : s.halted = false) (ht : step s = .next t) : t.Pending bs ∨ t.offered = s.offered.tail := by
  have popped : s.popInput.Pending bs := { h with }
  have issued (who : Issuer) : (s.issuedBy who).Pending bs := { h with }
  cases step_cases ht with
  | quiet q ho => exact .inl (h.keeps_of_quiet q ho)
  | runs who e => exact .inl ((issued who).effect e)
  | resets _ => exact .inl (issued _).startReset
  | send => exact .inl popped.advanceSend
  | unit => exact .inl popped.advanceUnit
  | ingress => exact .inr (popped.advanceIngress_takes hh)

theorem stepOn (x : Input) (hh : s.halted = false) :
    (stepOn x s).Pending bs ∨ (stepOn x s).offered = s.offered.tail := by
  have queued : State.Pending bs { s with inputs := [x] } := { h with }
  obtain ⟨t, ht⟩ := exists_step_eq_next { s with inputs := [x] }
  rw [stepOn_of_step ht]
  exact queued.step hh ht

theorem stepOn_advance_takes (hh : s.halted = false) : (Machine.stepOn (.advance .ingress) s).offered = s.offered.tail := by
  have popped : State.Pending bs { s with inputs := [] } := { h with }
  obtain ⟨advances, -⟩ := stepAdvancesTheAgent
  rw [stepOn_of_step (advances { s with inputs := [.advance .ingress] } [] rfl)]
  exact popped.advanceIngress_takes hh

theorem ingressEnabled (hh : s.halted = false) : s.ingressEnabled = true := by
  obtain ⟨more, ho⟩ := h.oldest
  rw [State.ingressEnabled, hh, ← ho]; simp

end State.Pending

/-- A chunk that no step takes stays the oldest pending one, as long as ingress is not halted. -/
theorem runSchedule_pending {sched : Nat → Input} {s : State} {bs : Bytes} {n m : Nat} (hnm : n ≤ m)
    (h : (runSchedule sched s n).Pending bs) (hh : ∀ k, n ≤ k → (runSchedule sched s k).halted = false)
    (never : ∀ k, n ≤ k → (runSchedule sched s k).Pending bs →
      (runSchedule sched s (k + 1)).offered ≠ (runSchedule sched s k).offered.tail) :
    (runSchedule sched s m).Pending bs := by
  induction m, hnm using Nat.le_induction with
  | base => exact h
  | succ m hnm ih => exact (ih.stepOn (sched m) (hh m hnm)).resolve_right (never m hnm ih)

/-- Settles O48: were the chunk never taken it would stay pending and INGRESS's step enabled, so a weakly fair schedule would
come to that step, which takes it. -/
theorem pendingChunkIsEventuallyTaken : Obligations.PendingChunkIsEventuallyTaken := by
  intro sched s n bs rest hfair he hi ho hh
  have start : (runSchedule sched s n).Pending bs := ⟨he, hi, ⟨rest, ho.symm⟩⟩
  by_contra untaken
  have never (k : Nat) (hk : n ≤ k) (hp : (runSchedule sched s k).Pending bs) :
      (runSchedule sched s (k + 1)).offered ≠ (runSchedule sched s k).offered.tail := by
    obtain ⟨more, hmore⟩ := hp.oldest
    intro htake
    exact untaken ⟨k, more, hk, hmore.symm, htake.trans (by rw [← hmore]; rfl)⟩
  have pending (m : Nat) (hm : n ≤ m) := runSchedule_pending hm start hh never
  obtain ⟨m, hm, hsched⟩ := hfair.2 n fun k hk => (pending k hk).ingressEnabled (hh k hk)
  refine never m hm (pending m hm) ?_
  rw [runSchedule, hsched]
  exact (pending m hm).stepOn_advance_takes (hh m hm)

end Sys2Proof.Machine
end

section
/-! PROOF. RESET at the level of events (70_reset_and_hazards.md R300). -/

namespace Sys2Proof.Machine

/-- Settles O13: the five assignments run as one step, and RECV_WAIT is what admission tests. -/
theorem resetClearsTheConnection : Obligations.ResetClearsTheConnection := by
  refine ⟨fun s ht hw he => ?runs, fun s _ hw => ?refused⟩
  case runs =>
    refine congrArg Host.Outcome.next ((attempt_app_appTurn _ _ ht (by rw [hw]; rfl)).trans ?_)
    rw [startSend_event he, ← hw]
    rfl
  case refused => exact congrArg Host.Outcome.next (attempt_not_admissible _ _ (by rw [hw]; rfl))

end Sys2Proof.Machine
end

section
/-! PROOF. The RETX livelock (70_reset_and_hazards.md R312): answering a RETX frame leaves the block ready to answer the next. -/

namespace Sys2Proof.Machine

/-- INGRESS waits for the next frame with RETX_FRAME cached and RXBUF unbounded. -/
structure State.EchoesRetx (s : State) : Prop where
  unhalted : s.halted = false
  idle : s.ingressTask = []
  noneOffered : s.offered = []
  event : s.params.atomicity = .event
  unbounded : s.params.rxbufCap = none
  empty : s.rxbuf = []
  cached : s.cache = some retxFrame

namespace State.EchoesRetx

variable {s : State} (h : s.EchoesRetx)
include h

theorem drained : s.Drained := ⟨h.unhalted, h.idle, h.noneOffered, h.event, by rw [h.empty]; decide⟩

/-- A RETX frame answered ok is one write of RETX_FRAME (43_controller.md R202). -/
theorem stepOn_retx (ha : s.answer = .ok) :
    stepOn (chunkInput retxFrame) s = (s.issuing (.agent .transport)).afterWrite retxFrame .ok := by
  rw [h.drained.stepOn_chunkInput retxFrame,
    rxchunk_one_frame (s := s.issuing _) retxFrame_length h.empty h.unhalted (rxbufFits_unbounded h.unbounded _),
    dispatch_of_retx classify_retxFrame, actRetx_some (s := s.issuing _) h.cached]
  exact congrArg ((s.issuing _).afterActionWrite retxFrame) ha

theorem afterRetx : ((s.issuing (.agent .transport)).afterWrite retxFrame .ok).EchoesRetx :=
  { h with cached := rfl }

end State.EchoesRetx

/-- n RETX frames answered ok are n writes of RETX_FRAME, and nothing else of the connection changes. -/
theorem runInputs_retx (n : Nat) {s : State} {as : List Answer} (h : s.EchoesRetx)
    (ha : s.answers = List.replicate n .ok ++ as) :
    (runInputs (List.replicate n (chunkInput retxFrame)) s).txlog = s.txlog ++ List.replicate n (retxFrame, .ok) ∧
    (runInputs (List.replicate n (chunkInput retxFrame)) s).cache = some retxFrame ∧
    (runInputs (List.replicate n (chunkInput retxFrame)) s).inq = s.inq ∧
    (runInputs (List.replicate n (chunkInput retxFrame)) s).err = s.err := by
  induction n generalizing s with
  | zero => exact ⟨(List.append_nil _).symm, h.cached, rfl, rfl⟩
  | succ n ih =>
    rw [List.replicate_succ, List.cons_append] at ha
    rw [List.replicate_succ, runInputs_cons, h.stepOn_retx (answer_of_answers ha)]
    obtain ⟨hlog, hcache, hinq, herr⟩ := ih h.afterRetx (congrArg List.tail ha)
    exact ⟨hlog.trans (List.append_cons ..).symm, hcache, hinq, herr⟩

/-- Settles O52: each RETX frame finds RETX_FRAME cached and leaves it cached. -/
theorem retxLivelockNeverEnds : Obligations.RetxLivelockNeverEnds :=
  fun n _ _ hh hi ho he hcap hr hc ha => runInputs_retx n ⟨hh, hi, ho, he, hcap, hr, hc⟩ ha

end Sys2Proof.Machine
end

section
/-! PROOF. A RECV between the push and the ACK (70_reset_and_hazards.md R318): under ATOMICITY = primitive the seven primitives
from a chunk's capacity test to QPush, then RECV. -/

namespace Sys2Proof.Machine

/-- From reset under ATOMICITY = primitive, INGRESS in the middle of the first chunk's operation. -/
def midChunk (rx : Bytes) (q : List Frame) (task : List Prim) : State :=
  { State.reset.withAtomicity .primitive with rxbuf := rx, inq := q, ingressTask := task, issuer := .agent .transport }

theorem midChunk_unhalted (rx : Bytes) (q : List Frame) (task : List Prim) : (midChunk rx q task).halted = false :=
  halted_of_err_zero rfl

/-- The chunk's operation begins with its capacity test (20_memory.md R67). -/
theorem stepOn_chunkInput_reset (f : Bytes) :
    stepOn (chunkInput f) (State.reset.withAtomicity .primitive) = midChunk [] [] [.rxTest f] := by
  have ready : OpGroup.ready .chunk (midChunk [] [] []) = true := (chunk_ready_iff _).2 ⟨midChunk_unhalted _ _ _, rfl, rfl⟩
  have starts : exec (.rxchunk f) (midChunk [] [] []) = .next (ingressEvent f (midChunk [] [] [])) :=
    congrArg Host.Outcome.next (attempt_runs (leaveOffered f) _ rfl ready)
  exact Host.Outcome.next.inj starts

/-- One primitive of INGRESS in the middle of the chunk, by what it does and what it puts next. -/
theorem stepOn_midChunk {rx rx' : Bytes} {q q' : List Frame} {p : Prim} {rest next : List Prim}
    (hs : primState p (midChunk rx q (p :: rest)) = midChunk rx' q' (p :: rest))
    (hn : primThen p (midChunk rx q (p :: rest)) = next) :
    stepOn (.advance .ingress) (midChunk rx q (p :: rest)) = midChunk rx' q' (next ++ rest) := by
  have go := advanceIngress_goes_on (s := midChunk rx q (p :: rest)) (midChunk_unhalted _ _ _) rfl (by rw [hs]; rfl)
  rw [hs, hn] at go
  exact go

/-- Seven primitives after a data frame arrived it is in INQ and the write of its ACK is next (20_memory.md R71). -/
theorem runInputs_to_ack {f : Bytes} (hf : f.length = 18) (hc : classify (frameOf f) = .data) :
    runInputs (List.replicate 7 (.advance .ingress)) (midChunk [] [] [.rxTest f]) =
      midChunk [] [frameOf f] [.transmit ackFrame .action, .drain] := by
  have ready (task : List Prim) : (midChunk f [] task).rxReady = true := (rxReady_iff _).2 hf.ge
  have slices (task : List Prim) : (midChunk f [] task).canSlice = true :=
    (canSlice_iff _).2 ⟨hf.ge, midChunk_unhalted _ _ _⟩
  have tested : stepOn (.advance .ingress) (midChunk [] [] [.rxTest f]) = midChunk [] [] [.rxAppend f, .drain] :=
    stepOn_midChunk rfl rfl
  have appended : stepOn (.advance .ingress) (midChunk [] [] [.rxAppend f, .drain]) = midChunk f [] [.drain] :=
    stepOn_midChunk rfl rfl
  have looped : stepOn (.advance .ingress) (midChunk f [] [.drain]) = midChunk f [] [.rxTake, .drain] :=
    stepOn_midChunk (p := .drain) rfl (if_pos (slices _))
  have taken : stepOn (.advance .ingress) (midChunk f [] [.rxTake, .drain]) = midChunk [] [] [.dispatch f, .drain] := by
    refine stepOn_midChunk (next := [.dispatch f]) ?_ ?_
    · rw [primState, if_pos (ready _)]; simp [midChunk, State.rxTake, hf]
    · rw [primThen, if_pos (ready _)]; simp [midChunk, State.rxHead, hf]
  have dispatched : stepOn (.advance .ingress) (midChunk [] [] [.dispatch f, .drain]) =
      midChunk [] [] [.pushTest (frameOf f), .transmit ackFrame .action, .drain] :=
    stepOn_midChunk rfl (primThen_dispatch_data hc _)
  have roomTested : stepOn (.advance .ingress) (midChunk [] [] [.pushTest (frameOf f), .transmit ackFrame .action, .drain]) =
      midChunk [] [] [.qPush (frameOf f), .transmit ackFrame .action, .drain] :=
    stepOn_midChunk rfl rfl
  have queued : stepOn (.advance .ingress) (midChunk [] [] [.qPush (frameOf f), .transmit ackFrame .action, .drain]) =
      midChunk [] [frameOf f] [.transmit ackFrame .action, .drain] :=
    stepOn_midChunk rfl rfl
  simp only [List.replicate, runInputs_cons, tested, appended, looped, taken, dispatched, roomTested, queued]
  rfl

/-- RECV then takes the frame, and INGRESS still has the write of the ACK before it. -/
theorem recvOvertakesTheAck {f : Bytes} (hf : f.length = 18) (hc : classify (frameOf f) = .data) :
    runInputs (chunkInput f :: (List.replicate 7 (.advance .ingress) ++ [recvInput]))
        (State.reset.withAtomicity .primitive) =
      popTo (.agent .appRecv) (frameOf f)
        ((midChunk [] [frameOf f] [.transmit ackFrame .action, .drain]).issuing (.agent .appRecv)) := by
  rw [runInputs_cons, stepOn_chunkInput_reset, runInputs_append, runInputs_to_ack hf hc]
  exact stepOn_recvInput_head (s := midChunk [] [frameOf f] _) (rest := []) rfl rfl

end Sys2Proof.Machine
end

section
/-! PROOF. Under ATOMICITY = event no RECV overtakes an ACK (70_reset_and_hazards.md R318): an operation that queues a frame also
writes its ACK, so the frames queued or returned never outnumber the ACK_FRAMEs written. -/

namespace Sys2Proof.Machine

/-- How many frames were returned to APP_RECV or wait in INQ for it. -/
def State.accepted (s : State) : Nat := s.received.length + s.inq.length

/-- From s to t at least as many ACK_FRAMEs were written as frames accepted; parameters and
operations in progress are the same. -/
structure AcksKeepUp (s t : State) : Prop extends SameTasks s t where
  balance : t.accepted + s.ackWrites ≤ s.accepted + t.ackWrites

theorem AcksKeepUp.refl (s : State) : AcksKeepUp s s := ⟨.refl s, le_rfl⟩

theorem AcksKeepUp.trans {s t u : State} (h : AcksKeepUp s t) (k : AcksKeepUp t u) : AcksKeepUp s u :=
  ⟨h.toSameTasks.trans k.toSameTasks, by
    have first := h.balance
    have second := k.balance
    omega⟩

/-! ### What counts -/

theorem received_of_returns_eq {s t : State} (h : t.returns = s.returns) : t.received = s.received := by
  simp only [State.received, h]

/-- What is returned is received as a frame only by APP_RECV, and only if it is one. -/
theorem received_ret {s : State} {r : Result} (h : s.issuer ≠ .agent .appRecv ∨ ∀ fr, r ≠ .frame fr) :
    (s.ret r).received = s.received := by
  have nothing : State.received { s with returns := [(s.issuer, r)] } = [] := by
    refine List.filterMap_eq_nil_iff.2 fun e he => ?_
    obtain rfl := List.mem_singleton.1 he
    split
    case h_1 fr hfr =>
      obtain ⟨hwho, hframe⟩ := Prod.mk.inj hfr
      exact h.elim (absurd hwho) fun hr => absurd hframe (hr fr)
    case h_2 => rfl
  exact List.filterMap_append.trans ((congrArg (s.received ++ ·) nothing).trans (List.append_nil _))

theorem received_append_frame {s t : State} {fr : Frame} (h : t.returns = s.returns ++ [(.agent .appRecv, .frame fr)]) :
    t.received = s.received ++ [fr] := by
  rw [State.received, h, List.filterMap_append]; rfl

theorem ackWrites_append {s t : State} {w : List (Bytes × TxResult)} (h : t.txlog = s.txlog ++ w) :
    t.ackWrites = s.ackWrites + (w.filter fun e => decide (e.1 = ackFrame)).length := by
  rw [State.ackWrites, h, List.filter_append, List.length_append, State.ackWrites]

/-- No frame accepted, and TXLOG only grows. -/
theorem AcksKeepUp.of_unaccepting {s t : State} (k : SameTasks s t) (hr : t.received = s.received) (hq : t.inq = s.inq)
    (hc : CacheFollows s t) : AcksKeepUp s t := by
  obtain ⟨w, hl, -⟩ := hc
  have more := ackWrites_append hl
  exact ⟨k, by simp only [State.accepted, hr, hq]; omega⟩

theorem AcksKeepUp.ret {s : State} {r : Result} (h : s.issuer ≠ .agent .appRecv ∨ ∀ fr, r ≠ .frame fr) :
    AcksKeepUp s (s.ret r) :=
  .of_unaccepting ⟨rfl, rfl, rfl, rfl⟩ (received_ret h) rfl (.of_eq rfl rfl)

theorem AcksKeepUp.refusedWith5 (s : State) : AcksKeepUp s s.refusedWith5 := .ret (r := .status 0x05#8) (.inr (by simp))

/-! ### RECV -/

/-- An entry moved from INQ to APP_RECV stays accepted. -/
theorem popTo_acksKeepUp {s : State} {fr : Frame} {q : List Frame} (hq : s.inq = fr :: q) :
    AcksKeepUp s (popTo (.agent .appRecv) fr s) := by
  rw [popTo_eq _ hq]
  refine ⟨⟨rfl, rfl, rfl, rfl⟩, Nat.add_le_add_right (Nat.le_of_eq ?_) _⟩
  rw [State.accepted, received_append_frame (s := s) rfl, State.accepted, hq, List.length_append, List.length_cons,
    List.length_cons, List.length_nil]
  simp only
  omega

theorem recvIssue_acksKeepUp {s : State} (hi : s.issuer = .agent .appRecv) : AcksKeepUp s (recvIssue s) := by
  cases hq : s.inq with
  | nil =>
    have e : recvIssue s = { s with recvWait := true } := by rw [recvIssue, hq]
    rw [e]; exact ⟨⟨rfl, rfl, rfl, rfl⟩, le_rfl⟩
  | cons fr q =>
    have e : recvIssue s = popTo (.agent .appRecv) fr s := by rw [recvIssue, hq, hi]
    rw [e]; exact popTo_acksKeepUp hq

theorem recvResume_acksKeepUp (s : State) : AcksKeepUp s (recvResume s) := by
  unfold recvResume
  split
  case h_1 fr q _ hq => exact { popTo_acksKeepUp hq with }
  case h_2 => exact .refl s

/-! ### Writes and frame actions -/

theorem txframe_acksKeepUp (f : Bytes) (s : State) : AcksKeepUp s (txframe f s) :=
  have out := txframe_outside f s
  .of_unaccepting out.sameTasks (received_of_returns_eq out.returns) (txframe_leaves f s).inq (txframe_cacheFollows f s)

theorem raise_acksKeepUp (s : State) (c : Cause) (bit : Option ErrBit) : AcksKeepUp s (s.raise c bit) :=
  .of_unaccepting ⟨rfl, rfl, rfl, rfl⟩ rfl rfl (.of_eq rfl rfl)

theorem actionWrite_acksKeepUp (f : Bytes) (s : State) : AcksKeepUp s (actionWrite f s) := by
  unfold actionWrite
  split
  · exact txframe_acksKeepUp f s
  · exact (txframe_acksKeepUp f s).trans (raise_acksKeepUp _ _ _)

theorem actRetx_acksKeepUp (s : State) : AcksKeepUp s (actRetx s) := by
  unfold actRetx
  split
  · exact raise_acksKeepUp s _ _
  · exact actionWrite_acksKeepUp _ s

theorem afterActionWrite_txlog (s : State) (f : Bytes) (a : Answer) :
    (s.afterActionWrite f a).txlog = s.txlog ++ [(f, Answer.result a)] := by
  cases a <;> rfl

theorem afterActionWrite_inq (s : State) (f : Bytes) (a : Answer) : (s.afterActionWrite f a).inq = s.inq := by
  cases a <;> rfl

/-- A frame that is queued is answered in the same operation, with one write of ACK_FRAME (43_controller.md R204). -/
theorem actData_acksKeepUp (fr : Frame) (s : State) : AcksKeepUp s (actData fr s) := by
  cases hfits : fits s.params.inqCap (s.inq.length + 1) with
  | true =>
    refine ⟨(actData_outside fr s).sameTasks, ?_⟩
    have written : (actData fr s).txlog = s.txlog ++ [(ackFrame, Answer.result s.answer)] := by
      rw [actData_fits fr hfits]; exact afterActionWrite_txlog _ _ _
    have one : (actData fr s).ackWrites = s.ackWrites + 1 := by simp [ackWrites_append written]
    have queued : (actData fr s).inq = s.inq ++ [fr] := by rw [actData_fits fr hfits, afterActionWrite_inq]
    rw [State.accepted, received_of_returns_eq (actData_outside fr s).returns, queued, one, State.accepted,
      List.length_append, List.length_singleton]
    omega
  | false =>
    rw [actData_overflows fr hfits]
    exact .of_unaccepting ⟨rfl, rfl, rfl, rfl⟩ rfl rfl (.of_eq rfl rfl)

theorem dispatch_acksKeepUp (f : Bytes) (s : State) : AcksKeepUp s (dispatch f s) := by
  cases hc : classify (frameOf f) with
  | corrupt => rw [dispatch_of_corrupt hc]; exact (raise_acksKeepUp s _ _).trans (actionWrite_acksKeepUp _ _)
  | retx => rw [dispatch_of_retx hc]; exact actRetx_acksKeepUp s
  | ack => rw [dispatch_of_ack hc]; exact .refl s
  | data => rw [dispatch_of_data hc]; exact actData_acksKeepUp _ s

theorem rxTake_acksKeepUp (s : State) : AcksKeepUp s s.rxTake := ⟨⟨rfl, rfl, rfl, rfl⟩, le_rfl⟩

theorem rxAppend_acksKeepUp (bs : Bytes) (s : State) : AcksKeepUp s (s.rxAppend bs) := ⟨⟨rfl, rfl, rfl, rfl⟩, le_rfl⟩

theorem drain_acksKeepUp (n : Nat) (s : State) : AcksKeepUp s (drain n s) := by
  induction n generalizing s with
  | zero => exact .refl s
  | succ n ih =>
    cases h : s.canSlice with
    | false => rw [drain_stops h]; exact .refl s
    | true =>
      rw [drain_slices h]
      exact (rxTake_acksKeepUp s).trans ((dispatch_acksKeepUp _ _).trans (ih _))

theorem rxchunk_acksKeepUp (bs : Bytes) (s : State) : AcksKeepUp s (rxchunk bs s) := by
  unfold rxchunk
  split
  · exact (rxAppend_acksKeepUp bs s).trans (drain_acksKeepUp _ _)
  · exact raise_acksKeepUp s _ _

/-! ### Operations and steps -/

theorem ingressEvent_acksKeepUp {s : State} (he : s.params.atomicity = .event) (bs : Bytes) :
    AcksKeepUp s (ingressEvent bs s) := by
  rw [ingressEvent, startIngress_event he]; exact rxchunk_acksKeepUp bs s

/-- An admission keeps the balance if waiting and a permitted run do. -/
theorem attempt_acksKeepUp {s : State} {g : OpGroup} {adm : Bool} {wait run : State → State} (hw : AcksKeepUp s (wait s))
    (hr : g.permits s.issuer = true → AcksKeepUp s (run s)) : AcksKeepUp s (s.attempt g adm wait run) := by
  obtain ⟨-, e⟩ | ⟨-, -, e⟩ | ⟨ha, -, e⟩ := attempt_cases s g adm wait run <;> rw [e]
  · exact .refusedWith5 s
  · exact hw
  · exact hr (Bool.and_eq_true_iff.1 ha).1

/-- An agent's operation other than APP_SEND's RESET: only chunks, SEND and RECV touch what counts. -/
theorem exec_acksKeepUp {i : Instr} {s t : State} {a : Agent} (ha : s.issuer = .agent a)
    (he : s.params.atomicity = .event) (hi : i = .reset → a ≠ .appSend) (ht : exec i s = .next t) : AcksKeepUp s t := by
  have notBlock : OpGroup.permits .ingress s.issuer ≠ true := by rw [ha]; exact Bool.false_ne_true
  cases i with
  | rxchunk bs =>
    cases ht
    exact attempt_acksKeepUp ⟨⟨rfl, rfl, rfl, rfl⟩, le_rfl⟩ fun _ => ingressEvent_acksKeepUp he bs
  | recv => cases ht; exact attempt_acksKeepUp (.refl s) fun hp => recvIssue_acksKeepUp (beq_iff_eq.1 hp)
  | send len p =>
    cases ht
    refine attempt_acksKeepUp (.refl s) fun hp => ?_
    rw [startSend_event he]
    exact (txframe_acksKeepUp _ s).trans (.ret (.inr (by simp)))
  | reset =>
    cases ht
    have sender (hp : OpGroup.app.permits s.issuer = true) : a = .appSend := Issuer.agent.inj (ha.symm.trans (beq_iff_eq.1 hp))
    exact attempt_acksKeepUp (.refl s) fun hp => absurd (sender hp) (hi rfl)
  | slice | dispatch _ | txframe _ | push _ | rxCorrupt _ | rxRetx | rxAck | rxData _ =>
    cases ht; exact attempt_acksKeepUp (.refl s) fun hp => absurd hp notBlock
  | reservedE | reservedF => cases ht; exact .refusedWith5 s
  | readerr => cases ht; exact attempt_acksKeepUp (.refl s) fun _ => .ret (.inr (by simp))
  | crc8 _ | encode _ _ | decode _ | validate _ | classify _ =>
    cases ht
    refine attempt_acksKeepUp (.refl s) fun hp => .ret (.inl fun recv => ?_)
    rw [recv] at hp
    cases hp

/-- Under ATOMICITY = event INGRESS's step is at most the event on the oldest pending chunk. -/
theorem advanceIngress_acksKeepUp {s : State} (he : s.params.atomicity = .event) (hi : s.ingressTask = []) :
    AcksKeepUp s (advanceIngress s) := by
  cases hh : s.halted with
  | true => rw [advanceIngress_halted hh]; exact .refl s
  | false =>
    cases ho : s.offered with
    | nil => simp only [advanceIngress, hh, hi, ho]; exact .refl s
    | cons bs rest =>
      rw [advanceIngress_chunk hh hi ho]
      exact { ingressEvent_acksKeepUp (s := { s with offered := rest }) he bs with }

/-- With nothing in progress a step is an agent's operation, a pending chunk's event, or RECV's resume. -/
theorem step_acksKeepUp {x : Input} {s t : State} (hx : isPlainInput x = true) (head : s.inputs.head? = some x)
    (he : s.params.atomicity = .event) (hidle : s.tasks = []) (ht : step s = .next t) : AcksKeepUp s t := by
  obtain ⟨ingressIdle, sendIdle, unitIdle⟩ := (tasks_eq_nil_iff s).1 hidle
  cases x with
  | issue who c =>
    cases who with
    | block => cases hx
    | agent a =>
      suffices k : AcksKeepUp (s.issuedBy (.agent a)) t from { k with }
      cases hd : decode c with
      | error e => rw [step_reject head hd] at ht; cases ht; exact .refusedWith5 _
      | ok i =>
        rw [step_issue head hd] at ht
        refine exec_acksKeepUp (a := a) rfl he (fun hr ha => ?_) ht
        subst hr ha
        rw [decode_reset hd] at hx
        cases hx
  | advance a =>
    rw [step_advance head] at ht
    suffices k : AcksKeepUp s.popInput t from { k with }
    cases a with
    | ingress => cases ht; exact advanceIngress_acksKeepUp he ingressIdle
    | appSend => cases ht; simp only [advanceSend, State.popInput_sendTask, sendIdle]; exact .refl _
    | appRecv => cases ht; exact recvResume_acksKeepUp _
    | transport => cases ht; exact .refl _
  | advanceUnit =>
    rw [step_advanceUnit head] at ht
    suffices k : AcksKeepUp s.popInput t from { k with }
    cases ht; simp only [advanceUnit, State.popInput_unitTask, unitIdle]; exact .refl _

theorem stepOn_acksKeepUp {x : Input} {s : State} (hx : isPlainInput x = true) (he : s.params.atomicity = .event)
    (hidle : s.tasks = []) : AcksKeepUp s (stepOn x s) := by
  obtain ⟨t, ht⟩ := exists_step_eq_next { s with inputs := [x] }
  rw [stepOn_of_step ht]
  exact { step_acksKeepUp (s := { s with inputs := [x] }) hx rfl he hidle ht with }

theorem runInputs_acksKeepUp {xs : List Input} {s : State} (hx : ∀ x ∈ xs, isPlainInput x = true)
    (he : s.params.atomicity = .event) (hidle : s.tasks = []) : AcksKeepUp s (runInputs xs s) := by
  induction xs generalizing s with
  | nil => exact .refl s
  | cons x xs ih =>
    obtain ⟨hx, hxs⟩ := List.forall_mem_cons.1 hx
    have first := stepOn_acksKeepUp hx he hidle
    exact first.trans (ih hxs (by rw [first.params]; exact he) (first.tasks.trans hidle))

/-- Settles O58: RECV after seven primitives, and for events the balance of accepted frames and ACKs along the run. -/
theorem recvMayOvertakeTheAck : Obligations.RecvMayOvertakeTheAck := by
  refine ⟨fun f hf hc => ⟨7, _, [.drain], recvOvertakesTheAck ((isFrame18_iff f).1 hf) hc, rfl, rfl, rfl⟩, ?_⟩
  intro xs ps as he hx
  have balance := (runInputs_acksKeepUp (s := { State.reset with params := ps, answers := as }) hx he rfl).balance
  exact (Nat.le_add_right _ _).trans (balance.trans (Nat.zero_add _).le)

end Sys2Proof.Machine
end

section
/-! PROOF. No step changes the parameters (10_state.md R41). -/

namespace Sys2Proof.Machine

theorem startIngress_params {ps : List Prim} {whole : State → State} (op : IngressOp ps whole) (s : State) :
    (s.startIngress ps whole).params = s.params :=
  startIngress_ind (P := fun t => t.params = s.params) (fun _ => (op.moves s).sameTasks.params) fun _ => rfl

theorem Effect.params {s t : State} (e : Effect s t) : t.params = s.params := by
  cases e with
  | quiet hq _ => exact hq.params
  | slices _ _ => rfl
  | ingress _ _ op => exact startIngress_params op s
  | sends _ => exact (startSend_leaves _ s).params
  | writes _ => exact (startUnit_leaves _ s).params

theorem startReset_params (s : State) : s.startReset.params = s.params :=
  startSend_ind (P := fun t => t.params = s.params) (fun _ => rfl) fun _ => rfl

theorem advanceIngress_params (s : State) : (advanceIngress s).params = s.params := by
  unfold advanceIngress
  split
  · rfl
  · split
    case h_1 p rest _ => exact (primState_sameTasks p s).params
    case h_2 =>
      split
      case h_1 bs rest _ => exact startIngress_params (.chunk bs) { s with offered := rest }
      case h_2 => rfl

theorem advanceSend_params (s : State) : (advanceSend s).params = s.params := by
  unfold advanceSend
  split
  case h_1 p rest _ => exact (primState_sameTasks p s).params
  case h_2 => rfl

theorem advanceUnit_params (s : State) : (advanceUnit s).params = s.params := by
  unfold advanceUnit
  split
  case h_1 p rest _ => exact (primState_sameTasks p s).params
  case h_2 => rfl

/-- Settles O12: each thing a step can do, an operation's effect or a primitive, leaves the parameters alone. -/
theorem stepKeepsTheParameters : Obligations.StepKeepsTheParameters := by
  intro s t h
  cases step_cases h with
  | quiet hq _ => exact hq.params
  | runs who e => exact e.params
  | resets _ => exact startReset_params _
  | ingress => exact advanceIngress_params s.popInput
  | send => exact advanceSend_params s.popInput
  | unit => exact advanceUnit_params s.popInput

end Sys2Proof.Machine
end

section
/-! PROOF. Under ATOMICITY = primitive the longer operations begin by noting their primitives (20_memory.md R67; the model's
choice, notes/assumptions/8.md). -/

namespace Sys2Proof.Machine

/-- A chunk offered when INGRESS can take it runs (42_assembler.md R180). -/
theorem attempt_chunkTurn {s : State} (wait run : State → State) (ht : s.chunkTurn) :
    s.attempt .chunk true wait run = run s := by
  obtain ⟨hi, hready⟩ := ht
  have hadm : (OpGroup.chunk.permits s.issuer && true) = true := by rw [hi]; rfl
  exact attempt_runs wait run hadm ((chunk_ready_iff s).2 hready)

/-- An admitted TXFRAME of the block runs between its TXFRAMEs, halted or not (43_controller.md R205). -/
theorem attempt_transmit_writerTurn {s : State} {adm : Bool} (wait run : State → State) (ht : s.writerTurn)
    (ha : adm = true) : s.attempt .transmit adm wait run = run s := by
  obtain ⟨hi, hu⟩ := ht
  have hadm : (OpGroup.transmit.permits s.issuer && adm) = true := by rw [hi, ha]; rfl
  have hready : OpGroup.transmit.ready s = true := by simp [OpGroup.ready, State.issuerIdle, hi, hu]
  exact attempt_runs wait run hadm hready

/-- An admitted operation of INGRESS's activity becomes INGRESS's operation in progress. -/
theorem attempt_ingress_begins {s : State} {adm : Bool} (wait : State → State) (ps : List Prim) (whole : State → State)
    (ht : s.unitTurn) (hp : s.params.atomicity = .primitive) (ha : adm = true) :
    s.attempt .ingress adm wait (fun st => st.startIngress ps whole) = { s with ingressTask := ps } :=
  (attempt_ingress_unitTurn wait _ ht ha).trans (startIngress_primitive hp ps whole)

/-- Settles O56: each operation is admitted in its turn, and its start only notes its primitives. -/
theorem primitiveOperationsBeginInTheirTask : Obligations.PrimitiveOperationsBeginInTheirTask := by
  intro s hp
  refine ⟨fun ht hw => congrArg Host.Outcome.next ?reset, fun len p ht ha => congrArg Host.Outcome.next ?send,
    fun bs ht => congrArg Host.Outcome.next ?chunk, fun f ht hf => congrArg Host.Outcome.next ?dispatch,
    fun f ht hf => congrArg Host.Outcome.next ?txframe, fun fr ht hw hc => congrArg Host.Outcome.next ?corrupt,
    fun ht => congrArg Host.Outcome.next ?retx, fun fr ht hw hc => ?data⟩
  case reset => exact (attempt_app_appTurn _ _ ht (by rw [hw]; rfl)).trans (startSend_primitive hp _ _)
  case send => exact (attempt_app_appTurn _ _ ht ha).trans (startSend_primitive hp _ _)
  case chunk => exact (attempt_chunkTurn _ _ ht).trans (startIngress_primitive hp _ _)
  case dispatch => exact attempt_ingress_begins _ _ _ ht hp ((isFrame18_iff f).2 hf)
  case txframe =>
    exact (attempt_transmit_writerTurn _ _ ht ((isFrame18_iff f).2 hf)).trans (startUnit_primitive hp _ _)
  case corrupt => exact attempt_ingress_begins _ _ _ ht hp (by rw [hw, hc]; rfl)
  case retx => exact attempt_ingress_begins _ _ _ ht hp rfl
  case data =>
    have admitted : (fr.wf && decide (classify fr = .data)) = true := by rw [hw, hc]; rfl
    exact ⟨congrArg Host.Outcome.next (attempt_ingress_begins _ _ _ ht hp admitted),
      congrArg Host.Outcome.next (attempt_ingress_begins _ _ _ ht hp admitted)⟩

end Sys2Proof.Machine
end

section
/-! PROOF. Who may issue what, with which operands (30_encoding.md R101, R102; the model's choice where R102 does not speak,
notes/assumptions/4.md, 9.md, 16.md). -/

namespace Sys2Proof.Machine

/-! ### Operands outside the constraints -/

theorem exec_slice_refused {s : State} (h : s.rxbuf.length < 18) : exec .slice s = .next s.refusedWith5 :=
  congrArg _ (attempt_not_admissible _ _ (decide_eq_false (Nat.not_le.2 h)))

/-- A frame action, or PUSH, is not admitted a frame of another class than its own. -/
theorem attempt_other_class {s : State} {g : OpGroup} {fr : Frame} {c : FrameClass} (wait run : State → State)
    (h : classify fr ≠ c) : s.attempt g (fr.wf && decide (classify fr = c)) wait run = s.refusedWith5 :=
  attempt_not_admissible wait run (by rw [decide_eq_false h, Bool.and_false])

/-! ### Other issuers -/

/-- The pure operations and READERR are refused to every agent but APP_SEND. -/
theorem exec_pure_refused {i : Instr} {s : State} (hi : isPure i = true)
    (h : s.issuer = .agent .appRecv ∨ s.issuer = .agent .ingress ∨ s.issuer = .agent .transport) :
    exec i s = .next s.refusedWith5 := by
  have notPure : OpGroup.pure.permits s.issuer = false := by obtain h | h | h := h <;> rw [h] <;> rfl
  have notApp : OpGroup.app.permits s.issuer = false := by obtain h | h | h := h <;> rw [h] <;> rfl
  cases i with
  | crc8 _ | encode _ _ | decode _ | validate _ | classify _ => exact congrArg _ (attempt_not_permitted _ _ notPure)
  | readerr => exact congrArg _ (attempt_not_permitted _ _ notApp)
  | _ => cases hi

/-- RESET, READERR and SEND are APP_SEND's alone. -/
theorem exec_app_refused {i : Instr} {s : State} (hi : i = .reset ∨ i = .readerr ∨ ∃ len p, i = .send len p)
    (h : s.issuer ≠ .agent .appSend) : exec i s = .next s.refusedWith5 := by
  have notApp : OpGroup.app.permits s.issuer = false := by simpa [OpGroup.permits] using h
  obtain rfl | rfl | ⟨len, p, rfl⟩ := hi <;> exact congrArg _ (attempt_not_permitted _ _ notApp)

theorem exec_recv_refused {s : State} (h : s.issuer ≠ .agent .appRecv) : exec .recv s = .next s.refusedWith5 :=
  congrArg _ (attempt_not_permitted _ _ (by simpa [OpGroup.permits] using h))

/-- Only the block hands a wire frame to the controller. -/
theorem exec_wireFrame_refused {i : Instr} {s : State} {a : Agent} (hi : isWireFrame i = true)
    (ha : s.issuer = .agent a) : exec i s = .next s.refusedWith5 := by
  cases i with
  | rxCorrupt _ | rxRetx | rxAck | rxData _ => exact congrArg _ (attempt_not_permitted _ _ (by rw [ha]; rfl))
  | _ => cases hi

/-! ### Rejected encodings -/

/-- A step on a code that does not decode returns 0x5 to its issuer. -/
theorem step_rejected_code {s : State} {who : Issuer} {c : Code} {rest : List Input}
    (h : s.inputs = .issue who c :: rest) (hd : ∀ i, decode c ≠ .ok i) :
    step s = .next { s with inputs := rest, issuer := who, returns := s.returns ++ [(who, .status 0x05#8)] } := by
  cases he : decode c with
  | ok i => exact absurd he (hd i)
  | error e => rw [step_reject (head?_inputs h) he, State.issuedBy, popInput_eq h]; rfl

/-- The encoder gives an op as many operands as it has (30_encoding.md R101). -/
theorem operands_length_of_encode {i : Instr} {op : BitVec 4} {os : List Operand} (h : encode i = .cmd op os) :
    os.length = operandCount op := by
  cases i <;> cases h <;> rfl

/-- So no command with another number of operands decodes. -/
theorem decode_cmd_ne_ok {op : BitVec 4} {os : List Operand} (h : os.length ≠ operandCount op) (i : Instr) :
    decode (.cmd op os) ≠ .ok i :=
  fun hd => h (operands_length_of_encode (wf_and_encode_of_decodeCmd hd).2)

theorem decode_wire_ne_ok {bs : Bytes} (h : bs.length ≠ 18) (i : Instr) : decode (.wire bs) ≠ .ok i :=
  fun hd => h ((isFrame18_iff bs).1 (decodeWire_eq_ok.1 hd).1)

/-! ### The pure operations of the block's units -/

/-- A pure operation of one of the block's units, between its writes, runs as APP_SEND's does (20_memory.md R68). -/
theorem attempt_pure_writerTurn {s : State} {adm : Bool} (wait run : State → State) (ht : s.writerTurn)
    (ha : adm = true) : s.attempt .pure adm wait run = run s := by
  obtain ⟨hi, hu⟩ := ht
  have hadm : (OpGroup.pure.permits s.issuer && adm) = true := by rw [hi, ha]; rfl
  have hready : OpGroup.pure.ready s = true := by simp [OpGroup.ready, State.issuerIdle, hi, hu]
  exact attempt_runs wait run hadm hready

/-- Both are returned the operation's value, or both are refused its operands. -/
theorem attempt_pure_same_value {s : State} (ht : s.writerTurn) (adm : Bool) (v : Result) :
    ∃ r, s.attempt .pure adm id (fun st => st.ret v) = { s with returns := s.returns ++ [(.block, r)] } ∧
      State.attempt { s with issuer := .agent .appSend, sendTask := [] } .pure adm id (fun st => st.ret v) =
        { s with issuer := .agent .appSend, sendTask := [], returns := s.returns ++ [(.agent .appSend, r)] } := by
  cases adm with
  | true =>
    refine ⟨v, ?_, attempt_pure_appTurn _ _ ⟨rfl, rfl⟩ rfl⟩
    rw [attempt_pure_writerTurn _ _ ht rfl, State.ret, ht.1]
  | false =>
    refine ⟨.status 0x05#8, ?_, attempt_not_admissible _ _ rfl⟩
    rw [attempt_not_admissible _ _ rfl, State.refusedWith5, ht.1]

theorem exec_pure_same_value {i : Instr} {s : State} (hi : isPure i = true) (hr : i ≠ .readerr) (ht : s.writerTurn) :
    ∃ r, exec i s = .next { s with returns := s.returns ++ [(.block, r)] } ∧
      exec i { s with issuer := .agent .appSend, sendTask := [] } =
        .next { s with issuer := .agent .appSend, sendTask := [], returns := s.returns ++ [(.agent .appSend, r)] } := by
  cases i with
  | crc8 _ | encode _ _ | decode _ | validate _ | classify _ =>
    obtain ⟨r, hb, ha⟩ := attempt_pure_same_value ht _ _
    exact ⟨r, congrArg _ hb, congrArg _ ha⟩
  | readerr => exact absurd rfl hr
  | _ => cases hi

/-- Settles O59: operands and issuers by admission, encodings by the decoder, the units' pure operations by their value. -/
theorem operationsGoByTheirIssuer : Obligations.OperationsGoByTheirIssuer := by
  refine ⟨fun _ => exec_slice_refused,
    fun fr s h => ⟨congrArg _ (attempt_other_class _ _ h), congrArg _ (attempt_other_class _ _ h)⟩,
    fun fr s h => congrArg _ (attempt_other_class _ _ h), fun _ _ => exec_pure_refused, fun _ _ => exec_app_refused,
    fun _ => exec_recv_refused, fun _ _ _ => exec_wireFrame_refused, fun s who bs rest h hl => ?wire,
    fun s who op os rest h hl => ?cmd, fun _ _ => exec_pure_same_value⟩
  case wire => exact step_rejected_code h (decode_wire_ne_ok hl)
  case cmd => exact step_rejected_code h (decode_cmd_ne_ok hl)

end Sys2Proof.Machine
end

section
/-! PROOF. What a write and INGRESS's activity do not read: ATOMICITY, the inbound wire and the issuer. -/

namespace Sys2Proof.Machine

/-- s with ATOMICITY, the inbound wire and the issuer changed, and nothing else. -/
def State.mapOuter (s : State) (a : Atomicity → Atomicity) (o : List Bytes → List Bytes) (w : Issuer → Issuer) : State :=
  { s with params := { s.params with atomicity := a s.params.atomicity }, offered := o s.offered, issuer := w s.issuer }

/-- f neither reads nor writes ATOMICITY, the inbound wire and the issuer. -/
def OuterFree (f : State → State) : Prop := ∀ s a o w, f (s.mapOuter a o w) = (f s).mapOuter a o w

theorem txframe_outerFree (f : Bytes) : OuterFree (txframe f) := by
  intro s a o w
  rw [txframe_eq, txframe_eq, show (s.mapOuter a o w).answer = s.answer from rfl]
  cases s.answer <;> rfl

theorem raise_outerFree (c : Cause) (bit : Option ErrBit) : OuterFree (·.raise c bit) := fun _ _ _ _ => rfl

theorem actionWrite_outerFree (f : Bytes) : OuterFree (actionWrite f) := by
  intro s a o w
  rw [actionWrite_eq, actionWrite_eq, show (s.mapOuter a o w).answer = s.answer from rfl]
  cases s.answer <;> rfl

theorem pushFrame_outerFree (fr : Frame) : OuterFree (pushFrame fr) := by
  intro s a o w
  have same : (s.mapOuter a o w).inqFits = s.inqFits := rfl
  rw [pushFrame, pushFrame, same]
  split <;> rfl

theorem actCorrupt_outerFree : OuterFree actCorrupt := fun s =>
  actionWrite_outerFree retxFrame (s.raise .checksumMismatch none)

theorem actRetx_outerFree : OuterFree actRetx := by
  intro s a o w
  have same : (s.mapOuter a o w).cache = s.cache := rfl
  rw [actRetx, actRetx, same]
  split
  · rfl
  · exact actionWrite_outerFree _ s a o w

theorem actData_outerFree (fr : Frame) : OuterFree (actData fr) := by
  intro s a o w
  have same : (s.mapOuter a o w).inqFits = s.inqFits := rfl
  rw [actData, actData, same, pushFrame_outerFree]
  split
  · exact actionWrite_outerFree _ _ a o w
  · rfl

theorem dispatch_outerFree (f : Bytes) : OuterFree (dispatch f) := by
  intro s a o w
  cases hc : classify (frameOf f) with
  | corrupt => rw [dispatch_of_corrupt hc, dispatch_of_corrupt hc, actCorrupt_outerFree]
  | retx => rw [dispatch_of_retx hc, dispatch_of_retx hc, actRetx_outerFree]
  | ack => rw [dispatch_of_ack hc, dispatch_of_ack hc]
  | data => rw [dispatch_of_data hc, dispatch_of_data hc, actData_outerFree]

theorem drain_outerFree (n : Nat) : OuterFree (drain n) := by
  intro s a o w
  induction n generalizing s with
  | zero => rfl
  | succ n ih =>
    cases h : s.canSlice with
    | false => rw [drain_stops (s := s.mapOuter a o w) h, drain_stops h]
    | true =>
      rw [drain_slices (s := s.mapOuter a o w) h, drain_slices h, ← ih, ← dispatch_outerFree]
      rfl

theorem rxchunk_outerFree (bs : Bytes) : OuterFree (rxchunk bs) := by
  intro s a o w
  have same : (s.mapOuter a o w).rxbufFits bs = s.rxbufFits bs := rfl
  rw [rxchunk, rxchunk, same]
  split
  · exact drain_outerFree _ (s.rxAppend bs) a o w
  · rfl

end Sys2Proof.Machine
end

section
/-! PROOF. Which operations wait and which do not start (60_exceptions.md R271; the model's choice, notes/assumptions/7.md). What
INGRESS does to a chunk goes by neither the chunks behind it nor who issued it, so a chunk that waited is taken as a new one. -/

namespace Sys2Proof.Machine

/-! ### Chunks -/

/-- A chunk INGRESS cannot take at once joins the inbound wire. -/
theorem exec_rxchunk_waits {bs : Bytes} {s : State} (hi : s.issuer = .agent .transport)
    (h : s.halted = true ∨ s.ingressTask ≠ [] ∨ s.offered ≠ []) : exec (.rxchunk bs) s = .next (leaveOffered bs s) := by
  have hadm : (OpGroup.chunk.permits s.issuer && true) = true := by rw [hi]; rfl
  have busy : OpGroup.chunk.ready s = false := by
    rw [← Bool.not_eq_true, chunk_ready_iff]
    rintro ⟨hh, htask, ho⟩
    obtain h | h | h := h
    · rw [hh] at h; cases h
    · exact h htask
    · exact h ho
  exact congrArg _ (attempt_waits _ _ hadm busy)

/-- The ingress event goes by neither the inbound wire nor the issuer. -/
theorem ingressEvent_outer (bs : Bytes) (s : State) (o : List Bytes → List Bytes) (w : Issuer → Issuer) :
    ingressEvent bs (s.mapOuter id o w) = (ingressEvent bs s).mapOuter id o w := by
  unfold ingressEvent
  cases ha : s.params.atomicity with
  | event => rw [startIngress_event (s := s.mapOuter id o w) ha, startIngress_event ha, rxchunk_outerFree]
  | primitive => rw [startIngress_primitive (s := s.mapOuter id o w) ha, startIngress_primitive ha]; rfl

/-- INGRESS's step on the oldest pending chunk is RXCHUNK of it, as if it were offered now and no other were pending. -/
theorem advanceIngress_takes_oldest {s : State} {bs : Bytes} {rest : List Bytes} (hi : s.ingressTask = [])
    (ho : s.offered = bs :: rest) (hh : s.halted = false) :
    ∃ t, exec (.rxchunk bs) { s with offered := [], issuer := .agent .transport } = .next t ∧
      advanceIngress s = { t with offered := rest, issuer := s.issuer } := by
  refine ⟨ingressEvent bs { s with offered := [], issuer := .agent .transport }, ?_, ?_⟩
  · have ready := (chunk_ready_iff { s with offered := [], issuer := .agent .transport }).2 ⟨hh, hi, rfl⟩
    exact congrArg _ (attempt_runs _ _ rfl ready)
  · rw [advanceIngress_chunk hh hi ho]
    exact ingressEvent_outer bs { s with offered := [], issuer := .agent .transport } (fun _ => rest) fun _ => s.issuer

/-! ### Operations that do not start -/

/-- An admissible operation of APP_SEND does not start inside another one. -/
theorem exec_appSend_busy {i : Instr} {s : State} (hi : isAppSend i = true) (ha : admissible s i = true)
    (hs : s.issuer = .agent .appSend) (ht : s.sendTask ≠ []) : exec i s = .next s := by
  have busy : s.issuerIdle = false := by simp [State.issuerIdle, hs, ht]
  have idle {g : OpGroup} {adm : Bool} {run : State → State} (hg : g = .app ∨ g = .pure) (ha : adm = true) :
      s.attempt g adm id run = s := by
    obtain rfl | rfl := hg <;> exact attempt_waits id run (by rw [hs, ha]; rfl) busy
  cases i with
  | reset | send _ _ | readerr => exact congrArg _ (idle (.inl rfl) ha)
  | crc8 _ | encode _ _ | decode _ | validate _ | classify _ => exact congrArg _ (idle (.inr rfl) ha)
  | _ => cases hi

/-- An admissible operation of INGRESS's activity does not start while ingress is halted or inside an operation. -/
theorem exec_ingress_busy {i : Instr} {s : State} (hi : isIngress i = true) (ha : admissible s i = true)
    (hs : s.issuer = .block) (h : s.halted = true ∨ s.ingressTask ≠ []) : exec i s = .next s := by
  have busy : OpGroup.ingress.ready s = false := by
    rw [← Bool.not_eq_true, ingress_ready_iff]
    rintro ⟨hh, htask⟩
    obtain h | h := h
    · rw [hh] at h; cases h
    · exact h htask
  have idle {adm : Bool} {run : State → State} (ha : adm = true) : s.attempt .ingress adm id run = s :=
    attempt_waits id run (by rw [hs, ha]; rfl) busy
  cases i with
  | slice | dispatch _ | push _ | rxCorrupt _ | rxRetx | rxAck | rxData _ => exact congrArg _ (idle ha)
  | _ => cases hi

/-- An admissible pure operation or TXFRAME of the block does not start inside its own TXFRAME. -/
theorem exec_unit_busy {i : Instr} {s : State} (hi : (isPure i = true ∧ i ≠ .readerr) ∨ ∃ f, i = .txframe f)
    (ha : admissible s i = true) (hs : s.issuer = .block) (ht : s.unitTask ≠ []) : exec i s = .next s := by
  have busy : s.issuerIdle = false := by simp [State.issuerIdle, hs, ht]
  have idle {g : OpGroup} {adm : Bool} {run : State → State} (hg : g = .pure ∨ g = .transmit) (ha : adm = true) :
      s.attempt g adm id run = s := by
    obtain rfl | rfl := hg <;> exact attempt_waits id run (by rw [hs, ha]; rfl) busy
  obtain ⟨hp, hr⟩ | ⟨f, rfl⟩ := hi
  · cases i with
    | crc8 _ | encode _ _ | decode _ | validate _ | classify _ => exact congrArg _ (idle (.inl rfl) ha)
    | readerr => exact absurd rfl hr
    | _ => cases hp
  · exact congrArg _ (idle (.inr rfl) ha)

/-- Settles O60: chunks by the inbound wire, the other operations by an admission whose agent has no step. -/
theorem chunksWaitAndOtherOperationsDoNotStart : Obligations.ChunksWaitAndOtherOperationsDoNotStart := by
  obtain ⟨-, noStep, -⟩ := haltedIngressHasNoStep
  exact ⟨fun _ _ => exec_rxchunk_waits, fun _ _ _ => advanceIngress_takes_oldest, noStep, fun _ _ => exec_appSend_busy,
    fun _ _ => exec_ingress_busy, fun _ _ => exec_unit_busy⟩

end Sys2Proof.Machine
end

section
/-! PROOF. An operation run primitive by primitive with no other agent between (20_memory.md R67): first the runs of primitives by
themselves, then the agents' steps that make them, then the operations. -/

namespace Sys2Proof.Machine

/-! ### Runs of primitives -/

/-- The primitives in progress, run from s with nothing between, end in t; a state in which `stop` holds ends the run. -/
inductive PrimRun (stop : State → Bool) : List Prim → State → State → Prop
  | done (s : State) : PrimRun stop [] s s
  | stopped {ps : List Prim} {s : State} (h : stop s = true) : PrimRun stop ps s s
  | prim {p : Prim} {ps : List Prim} {s t : State} (h : stop s = false)
      (r : PrimRun stop (primThen p s ++ ps) (primState p s) t) : PrimRun stop (p :: ps) s t

theorem PrimRun.of_stopped {stop : State → Bool} {ps : List Prim} {s t : State} (h : stop s = true)
    (r : PrimRun stop ps s t) : t = s := by
  cases r with
  | done | stopped _ => rfl
  | prim hs _ => rw [h] at hs; cases hs

theorem PrimRun.append {stop : State → Bool} {ps qs : List Prim} {s t u : State} (h : PrimRun stop ps s t)
    (k : PrimRun stop qs t u) : PrimRun stop (ps ++ qs) s u := by
  induction h with
  | done s => exact k
  | stopped hs => rw [k.of_stopped hs]; exact .stopped hs
  | prim hs _ ih =>
    refine .prim hs ?_
    rw [List.append_eq, ← List.append_assoc]
    exact ih k

/-- A primitive that leaves nothing to come next is run by itself. -/
theorem PrimRun.single {stop : State → Bool} {p : Prim} {s : State} (h : stop s = false) (hn : primThen p s = []) :
    PrimRun stop [p] s (primState p s) := by
  refine .prim h ?_
  rw [hn]
  exact .done _

/-- A primitive that changes nothing only chooses what comes next. -/
theorem PrimRun.test {stop : State → Bool} {p : Prim} {ps : List Prim} {s t : State} (h : stop s = false)
    (hs : primState p s = s) (r : PrimRun stop (primThen p s ++ ps) s t) : PrimRun stop (p :: ps) s t :=
  .prim h (by rw [hs]; exact r)

/-- What ends no run: APP_SEND and the block's own TXFRAME go on while ingress is halted (10_state.md R37). -/
def neverStops (_ : State) : Bool := false

/-! ### Writes -/

/-- TXFRAME with what its caller does with the result (43_controller.md R205, R206). -/
def callerWrite (f : Bytes) (c : Caller) (s : State) : State := callerEnd c s.txResult (txframe f s)

/-- A write that is no frame action's, whatever the transport answers. -/
theorem callerWrite_run (f : Bytes) {c : Caller} (hc : c ≠ .action) (s : State) :
    PrimRun neverStops [.transmit f c] s (callerWrite f c s) := by
  refine .prim rfl ?_
  cases hr : s.txResult with
  | ok =>
    rw [primThen_transmit_ok hr, primState_transmit_ok hr, callerWrite, txframe, hr]
    exact .single rfl rfl
  | fail =>
    rw [primThen_transmit_fail hr, if_neg hc, primState, callerWrite, txframe, hr]
    exact .done _

/-- A frame action's write: a failure is raised (43_controller.md R210). -/
theorem actionWrite_run (f : Bytes) {s : State} (hh : s.halted = false) :
    PrimRun State.halted [.transmit f .action] s (actionWrite f s) := by
  refine .prim hh ?_
  cases hr : s.txResult with
  | ok =>
    rw [primThen_transmit_ok hr, primState_transmit_ok hr, actionWrite, txframe, hr]
    exact .single hh rfl
  | fail =>
    rw [primThen_transmit_fail hr, if_pos rfl, primState, actionWrite, txframe, hr]
    exact .single hh rfl

/-! ### INGRESS's operations -/

theorem pushFrame_run (fr : Frame) {s : State} (hh : s.halted = false) :
    PrimRun State.halted [.pushTest fr] s (pushFrame fr s) := by
  refine .test hh rfl ?_
  rw [pushFrame, primThen]
  split
  · exact .single hh rfl
  · exact .single hh rfl

theorem actCorrupt_run {s : State} (hh : s.halted = false) :
    PrimRun State.halted [.raise .checksumMismatch none, .transmit retxFrame .action] s (actCorrupt s) :=
  .prim hh (actionWrite_run retxFrame hh)

theorem actRetx_run {s : State} (hh : s.halted = false) : PrimRun State.halted [.cacheRead] s (actRetx s) := by
  refine .test hh rfl ?_
  cases hc : s.cache with
  | none => rw [actRetx, primThen, hc]; exact .single hh rfl
  | some c => rw [actRetx, primThen, hc]; exact actionWrite_run c hh

/-- An overflow of INQ halts, so the write of the ACK is dropped (43_controller.md R204). -/
theorem actData_run (fr : Frame) {s : State} (hh : s.halted = false) :
    PrimRun State.halted [.pushTest fr, .transmit ackFrame .action] s (actData fr s) := by
  refine (pushFrame_run fr hh).append ?_
  cases hf : s.inqFits with
  | true =>
    have unhalted : (pushFrame fr s).halted = false := by rw [pushFrame, hf]; exact hh
    rw [actData, hf]
    exact actionWrite_run ackFrame unhalted
  | false =>
    have halted : (pushFrame fr s).halted = true := by rw [pushFrame, hf]; exact raise_halted s _ (by simp)
    rw [actData, hf]
    exact .stopped halted

theorem dispatch_run (f : Bytes) {s : State} (hh : s.halted = false) :
    PrimRun State.halted [.dispatch f] s (dispatch f s) := by
  refine .test hh rfl ?_
  rw [primThen]
  cases hc : classify (frameOf f) with
  | corrupt => rw [dispatch_of_corrupt hc]; exact actCorrupt_run hh
  | retx => rw [dispatch_of_retx hc]; exact actRetx_run hh
  | ack => rw [dispatch_of_ack hc]; exact .done s
  | data => rw [dispatch_of_data hc]; exact actData_run _ hh

/-- The drain loop, whose every pass is a loop test, RxTake and a DISPATCH (42_assembler.md R180). -/
theorem drain_run (n : Nat) (s : State) (hn : s.rxbuf.length ≤ n) : PrimRun State.halted [.drain] s (drain n s) := by
  have stops {s : State} (h : s.canSlice = false) : PrimRun State.halted [.drain] s s := by
    cases hh : s.halted with
    | true => exact .stopped hh
    | false => exact .single hh (by rw [primThen, h]; rfl)
  induction n generalizing s with
  | zero => exact stops ((canSlice_eq_false_iff s).2 (.inl (by omega)))
  | succ n ih =>
    cases h : s.canSlice with
    | false => rw [drain_stops h]; exact stops h
    | true =>
      obtain ⟨h18, hh⟩ := (canSlice_iff s).1 h
      have ready := rxReady_of_canSlice h
      have pass : PrimRun State.halted [.rxTake] s (dispatch s.rxHead s.rxTake) := by
        refine .prim hh ?_
        rw [primThen, primState, if_pos ready, if_pos ready]
        exact dispatch_run s.rxHead hh
      have shorter : (dispatch s.rxHead s.rxTake).rxbuf.length ≤ n := by rw [dispatch_rxTake_length]; omega
      refine .test hh rfl ?_
      rw [drain_slices h, primThen, if_pos h]
      exact pass.append (ih _ shorter)

theorem rxchunk_run (bs : Bytes) {s : State} (hh : s.halted = false) :
    PrimRun State.halted [.rxTest bs] s (rxchunk bs s) := by
  refine .test hh rfl ?_
  rw [rxchunk, primThen]
  split
  · exact .prim hh (drain_run (s.rxbuf.length + bs.length) (s.rxAppend bs) (by simp))
  · exact .single hh rfl

/-- INGRESS's operations, each from the primitives it starts with. -/
theorem IngressOp.run {ps : List Prim} {whole : State → State} (op : IngressOp ps whole) {s : State}
    (hh : s.halted = false) : PrimRun State.halted ps s (whole s) := by
  cases op with
  | chunk bs => exact rxchunk_run bs hh
  | dispatch _ => exact dispatch_run _ hh
  | push _ => exact pushFrame_run _ hh
  | corrupt => exact actCorrupt_run hh
  | retx => exact actRetx_run hh
  | data _ => exact actData_run _ hh

/-! ### The agents' steps -/

/-- s with other operations in progress. -/
def State.withTasks (s : State) (ingress send unit : List Prim) : State :=
  { s with ingressTask := ingress, sendTask := send, unitTask := unit }

/-- A primitive does to the elements what it does whatever else is in progress. -/
theorem primState_withTasks (p : Prim) (s : State) (i a u : List Prim) :
    primState p (s.withTasks i a u) = (primState p s).withTasks i a u := by
  cases p with
  | rxTake =>
    rw [primState, primState, show (s.withTasks i a u).rxReady = s.rxReady from rfl]
    split <;> rfl
  | transmit f c =>
    rw [primState, primState, show (s.withTasks i a u).txResult = s.txResult from rfl]
    cases s.txResult with
    | ok => rfl
    | fail => cases c <;> rfl
  | cacheWrite f c => cases c <;> rfl
  | clear e => cases e <;> rfl
  | rxTest _ | rxAppend _ | drain | dispatch _ | raise _ _ | pushTest _ | qPush _ | cacheRead => rfl

/-- What is left of INGRESS's operation in a state: nothing when it is halted (10_state.md R37). -/
def State.left (s : State) (ps : List Prim) : List Prim := if s.halted then [] else ps

/-- INGRESS's steps make a run of primitives that a halt ends. -/
theorem PrimRun.advanceIngressN {ps : List Prim} {s t : State} (r : PrimRun State.halted ps s t) (a u : List Prim) :
    ∃ n, advanceIngressN n (s.withTasks (s.left ps) a u) = t.withTasks [] a u := by
  induction r with
  | done s => exact ⟨0, by rw [State.left, ite_self]; rfl⟩
  | stopped hs => exact ⟨0, by rw [State.left, if_pos hs]; rfl⟩
  | @prim p ps s t hs _ ih =>
    obtain ⟨n, hn⟩ := ih
    refine ⟨n + 1, ?_⟩
    have start : s.left (p :: ps) = p :: ps := if_neg (by simp [hs])
    have next : advanceIngress (s.withTasks (p :: ps) a u) =
        (primState p s).withTasks ((primState p s).left (primThen p s ++ ps)) a u := by
      rw [advanceIngress_prim (s := s.withTasks (p :: ps) a u) hs rfl, ingressRest, primState_withTasks]
      rfl
    rw [start, Machine.advanceIngressN, next, hn]

/-- APP_SEND's steps make a run of primitives to its end. -/
theorem PrimRun.advanceSendN {ps : List Prim} {s t : State} (r : PrimRun neverStops ps s t) (i u : List Prim) :
    ∃ n, advanceSendN n (s.withTasks i ps u) = t.withTasks i [] u := by
  induction r with
  | done s => exact ⟨0, rfl⟩
  | stopped hs => cases hs
  | @prim p ps s t _ _ ih =>
    obtain ⟨n, hn⟩ := ih
    refine ⟨n + 1, ?_⟩
    have next : advanceSend (s.withTasks i (p :: ps) u) = (primState p s).withTasks i (primThen p s ++ ps) u := by
      rw [advanceSend_prim (s := s.withTasks i (p :: ps) u) rfl, primState_withTasks]
      rfl
    rw [Machine.advanceSendN, next, hn]

/-- The steps of the block's own TXFRAME make a run of primitives to its end. -/
theorem PrimRun.advanceUnitN {ps : List Prim} {s t : State} (r : PrimRun neverStops ps s t) (i a : List Prim) :
    ∃ n, advanceUnitN n (s.withTasks i a ps) = t.withTasks i a [] := by
  induction r with
  | done s => exact ⟨0, rfl⟩
  | stopped hs => cases hs
  | @prim p ps s t _ _ ih =>
    obtain ⟨n, hn⟩ := ih
    refine ⟨n + 1, ?_⟩
    have next : advanceUnit (s.withTasks i a (p :: ps)) = (primState p s).withTasks i a (primThen p s ++ ps) := by
      rw [advanceUnit_prim (s := s.withTasks i a (p :: ps)) rfl, primState_withTasks]
      rfl
    rw [Machine.advanceUnitN, next, hn]

/-! ### Operations -/

/-- f neither reads nor writes ATOMICITY. -/
def AtomicityFree (f : State → State) : Prop := ∀ s a, f (s.withAtomicity a) = (f s).withAtomicity a

theorem OuterFree.atomicityFree {f : State → State} (h : OuterFree f) : AtomicityFree f := fun s a =>
  h s (fun _ => a) id id

theorem IngressOp.atomicityFree {ps : List Prim} {whole : State → State} (op : IngressOp ps whole) :
    AtomicityFree whole := by
  cases op with
  | chunk bs => exact (rxchunk_outerFree bs).atomicityFree
  | dispatch _ => exact (dispatch_outerFree _).atomicityFree
  | push _ => exact (pushFrame_outerFree _).atomicityFree
  | corrupt => exact actCorrupt_outerFree.atomicityFree
  | retx => exact actRetx_outerFree.atomicityFree
  | data _ => exact (actData_outerFree _).atomicityFree

theorem recvIssue_atomicityFree : AtomicityFree recvIssue := by
  intro s a
  rw [recvIssue, recvIssue, show (s.withAtomicity a).inq = s.inq from rfl]
  split <;> rfl

theorem ret_eq_retTo {s : State} {who : Issuer} (h : s.issuer = who) (r : Result) : s.ret r = s.retTo who r := by
  subst h; rfl

theorem sendWrite_atomicityFree (f : Bytes) : AtomicityFree (sendWrite f) := by
  intro s a
  rw [sendWrite, sendWrite, (txframe_outerFree f).atomicityFree]; rfl

/-- SEND's write goes back to APP_SEND (43_controller.md R206). -/
theorem sendWrite_run (f : Bytes) {s : State} (hi : s.issuer = .agent .appSend) :
    PrimRun neverStops [.transmit f .send] s (sendWrite f s) := by
  rw [sendWrite, ret_eq_retTo ((txframe_outside f s).issuer.trans hi)]
  exact callerWrite_run f (by simp) s

/-- TXFRAME issued by the block: the write, its result returned. -/
def unitWrite (f : Bytes) (s : State) : State := (txframe f s).ret (.written s.txResult)

theorem unitWrite_atomicityFree (f : Bytes) : AtomicityFree (unitWrite f) := by
  intro s a
  rw [unitWrite, unitWrite, (txframe_outerFree f).atomicityFree]; rfl

/-- Its result goes back to the block (43_controller.md R205). -/
theorem unitWrite_run (f : Bytes) {s : State} (hi : s.issuer = .block) :
    PrimRun neverStops [.transmit f .txframe] s (unitWrite f s) := by
  rw [unitWrite, ret_eq_retTo ((txframe_outside f s).issuer.trans hi)]
  exact callerWrite_run f (by simp) s

/-- RESET's assignments one after the other (70_reset_and_hazards.md R300). -/
theorem clear_run (es : List Element) (s : State) : PrimRun neverStops (es.map Prim.clear) s (es.foldl State.clear s) := by
  induction es generalizing s with
  | nil => exact .done s
  | cons e es ih => exact .prim rfl (ih (s.clear e))

theorem SameTasks.withTasks_eq {s t : State} (k : SameTasks s t) :
    t.withTasks s.ingressTask s.sendTask s.unitTask = t := by
  rw [← k.ingressTask, ← k.sendTask, ← k.unitTask]; rfl

/-- Further steps of INGRESS, APP_SEND and the block's own TXFRAME lead from t to u, but for the atomicity. -/
def EndsAs (t u : State) : Prop :=
  ∃ n m k, advanceUnitN k (advanceSendN m (advanceIngressN n t)) = u.withAtomicity .primitive

/-- Under ATOMICITY = primitive nothing is in progress. -/
structure State.IdlePrimitive (s : State) : Prop where
  primitive : s.params.atomicity = .primitive
  ingressTask : s.ingressTask = []
  sendTask : s.sendTask = []
  unitTask : s.unitTask = []

namespace State.IdlePrimitive

variable {s : State} (h : s.IdlePrimitive)
include h

/-- What f does under ATOMICITY = event it does here, but for the atomicity. -/
theorem event_back {f : State → State} (hf : AtomicityFree f) :
    (f (s.withAtomicity .event)).withAtomicity .primitive = f s := by
  have back : s.withAtomicity .primitive = s := by rw [State.withAtomicity, ← h.primitive]
  calc (f (s.withAtomicity .event)).withAtomicity .primitive
      = (f s).withAtomicity .primitive := by rw [hf]; rfl
    _ = f s := by rw [← hf, back]

/-- An operation of one primitive is that one step. -/
theorem same {f : State → State} (hf : AtomicityFree f) : EndsAs (f s) (f (s.withAtomicity .event)) :=
  ⟨0, 0, 0, (h.event_back hf).symm⟩

theorem ingress {ps : List Prim} {whole : State → State} (hh : s.halted = false) (op : IngressOp ps whole) :
    EndsAs (s.startIngress ps whole) ((s.withAtomicity .event).startIngress ps whole) := by
  have keeps := (op.moves s).sameTasks.withTasks_eq
  have start : s.left ps = ps := if_neg (by simp [hh])
  obtain ⟨n, hn⟩ := (op.run hh).advanceIngressN s.sendTask s.unitTask
  rw [h.ingressTask] at keeps
  rw [start, keeps] at hn
  rw [startIngress_primitive h.primitive, startIngress_event rfl]
  exact ⟨n, 0, 0, hn.trans (h.event_back op.atomicityFree).symm⟩

theorem send {ps : List Prim} {whole : State → State} (r : PrimRun neverStops ps s (whole s))
    (k : SameTasks s (whole s)) (hf : AtomicityFree whole) :
    EndsAs (s.startSend ps whole) ((s.withAtomicity .event).startSend ps whole) := by
  have keeps := k.withTasks_eq
  obtain ⟨m, hm⟩ := r.advanceSendN s.ingressTask s.unitTask
  rw [h.sendTask] at keeps
  rw [keeps] at hm
  rw [startSend_primitive h.primitive, startSend_event rfl]
  exact ⟨0, m, 0, hm.trans (h.event_back hf).symm⟩

theorem unit {ps : List Prim} {whole : State → State} (r : PrimRun neverStops ps s (whole s))
    (k : SameTasks s (whole s)) (hf : AtomicityFree whole) :
    EndsAs (s.startUnit ps whole) ((s.withAtomicity .event).startUnit ps whole) := by
  have keeps := k.withTasks_eq
  obtain ⟨n, hn⟩ := r.advanceUnitN s.ingressTask s.sendTask
  rw [h.unitTask] at keeps
  rw [keeps] at hn
  rw [startUnit_primitive h.primitive, startUnit_event rfl]
  exact ⟨0, 0, n, hn.trans (h.event_back hf).symm⟩

/-- Admission does not read ATOMICITY, so both are refused, both wait or both run. -/
theorem attempt {g : OpGroup} {adm : Bool} {wait run : State → State} (hw : AtomicityFree wait)
    (hr : g.permits s.issuer = true → adm = true → g.ready s = true → EndsAs (run s) (run (s.withAtomicity .event))) :
    EndsAs (s.attempt g adm wait run) ((s.withAtomicity .event).attempt g adm wait run) := by
  have sameReady : g.ready (s.withAtomicity .event) = g.ready s := by cases g <;> rfl
  cases ha : (g.permits s.issuer && adm) with
  | false =>
    rw [attempt_refused wait run ha, attempt_refused (s := s.withAtomicity .event) wait run ha]
    exact h.same (f := State.refusedWith5) fun _ _ => rfl
  | true =>
    cases hg : g.ready s with
    | false =>
      rw [attempt_waits wait run ha hg, attempt_waits (s := s.withAtomicity .event) wait run ha (sameReady.trans hg)]
      exact h.same hw
    | true =>
      obtain ⟨permitted, admitted⟩ := Bool.and_eq_true_iff.1 ha
      rw [attempt_runs wait run ha hg, attempt_runs (s := s.withAtomicity .event) wait run ha (sameReady.trans hg)]
      exact hr permitted admitted hg

theorem attempt_same {g : OpGroup} {adm : Bool} {run : State → State} (hf : AtomicityFree run) :
    EndsAs (s.attempt g adm id run) ((s.withAtomicity .event).attempt g adm id run) :=
  h.attempt (fun _ _ => rfl) fun _ _ _ => h.same hf

theorem attempt_ingress {adm : Bool} {ps : List Prim} {whole : State → State} (op : adm = true → IngressOp ps whole) :
    EndsAs (s.attempt .ingress adm id fun st => st.startIngress ps whole)
      ((s.withAtomicity .event).attempt .ingress adm id fun st => st.startIngress ps whole) :=
  h.attempt (fun _ _ => rfl) fun _ ha hg => h.ingress ((ingress_ready_iff s).1 hg).1 (op ha)

/-- Every operation, by the agent that runs it: INGRESS, APP_SEND, the block's own TXFRAME, or in one step. -/
theorem exec {i : Instr} {t u : State} (ht : exec i s = .next t) (hu : exec i (s.withAtomicity .event) = .next u) :
    EndsAs t u := by
  have waits : AtomicityFree id := fun _ _ => rfl
  cases i with
  | reset =>
    cases ht; cases hu
    exact h.attempt waits fun _ _ _ => h.send (clear_run resetElements s) ⟨rfl, rfl, rfl, rfl⟩ fun _ _ => rfl
  | send len p =>
    cases ht; cases hu
    refine h.attempt waits fun hi _ _ => h.send (sendWrite_run _ (by simpa [OpGroup.permits] using hi)) ?_
      (sendWrite_atomicityFree _)
    exact (txframe_outside _ s).sameTasks.trans ⟨rfl, rfl, rfl, rfl⟩
  | txframe f =>
    cases ht; cases hu
    refine h.attempt waits fun hi _ _ => h.unit (whole := unitWrite f)
      (unitWrite_run f (by simpa [OpGroup.permits] using hi)) ?_ (unitWrite_atomicityFree f)
    exact (txframe_outside f s).sameTasks.trans ⟨rfl, rfl, rfl, rfl⟩
  | rxchunk bs =>
    cases ht; cases hu
    exact h.attempt (fun _ _ => rfl) fun _ _ hg => h.ingress ((chunk_ready_iff s).1 hg).1 (.chunk bs)
  | dispatch f => cases ht; cases hu; exact h.attempt_ingress .dispatch
  | push fr => cases ht; cases hu; exact h.attempt_ingress .push
  | rxCorrupt fr => cases ht; cases hu; exact h.attempt_ingress fun _ => .corrupt
  | rxRetx => cases ht; cases hu; exact h.attempt_ingress fun _ => .retx
  | rxData fr => cases ht; cases hu; exact h.attempt_ingress .data
  | recv => cases ht; cases hu; exact h.attempt_same recvIssue_atomicityFree
  | reservedE | reservedF => cases ht; cases hu; exact h.same (f := State.refuse) fun _ _ => rfl
  | crc8 _ | encode _ _ | decode _ | validate _ | classify _ | readerr | slice | rxAck =>
    cases ht; cases hu; exact h.attempt_same fun _ _ => rfl

end State.IdlePrimitive

/-- Settles O55: the operation begins with primitives whose run, by its agent's further steps, ends where the one step does. -/
theorem primitivesWithoutInterleavingMatchTheEvent : Obligations.PrimitivesWithoutInterleavingMatchTheEvent := by
  intro i s t u hp htasks ht hu
  obtain ⟨hi, hs, hun⟩ := (tasks_eq_nil_iff s).1 htasks
  exact State.IdlePrimitive.exec ⟨hp, hi, hs, hun⟩ ht hu

end Sys2Proof.Machine
end
